-- ==== Sys2Proof/Word.lean ====
section
/-! DEFINITION. The widths of the block and the three-element type of an increment (spec 00_scope.md R9, R10, R11). -/

namespace Sys2Proof

/-- `u8` of R11: a channel history, and the 8-bit two's complement `i8` of `pending_increment`. -/
abbrev Byte := BitVec 8

/-- `u32` of R11: a millisecond count; its addition and subtraction are modulo `2^32` (R11, R95). -/
abbrev Millis := BitVec 32

/-- The 2-bit command word `cmd[1:0]` of format C (R56). -/
abbrev CommandWord := BitVec 2

/-- `inc3` of R11, the three-element type of an increment: `-1` (reverse detent), `0` (no event),
`+1` (forward detent), R80. -/
inductive Inc3 where
  | minusOne
  | zero
  | plusOne
deriving DecidableEq, Repr

end Sys2Proof
end

