-- ==== Sys2Proof/Config.lean ====
section
/-! DEFINITION. The two open parameters of an instance (spec 00_scope.md R7, R8). Both are constants of the
instance; they stand in State as data, so that a statement about every state holds for every value of them. -/

namespace Sys2Proof

/-- `GATED_CLICK` (R8, R96, D15): which click signal a rate-limited READ hands to the latch. -/
inductive GatedClick where
  /-- `ACCESSOR`: the decoder's `clicked` accessor, `RAISED(hist_c)` on the unchanged history. -/
  | accessor
  /-- `FALSE`: no event. -/
  | alwaysFalse
deriving DecidableEq, Repr

/-- DESIGN CHOICE, unsafe (log 3): the `INTERVAL` of the instance that `State.reset` is. The spec gives no
value; 1 ms is the one value its document uses (R7). No statement rests on it. -/
def Config.resetInterval : Millis := 1

/-- DESIGN CHOICE, unsafe (log 4): the `GATED_CLICK` of the instance that `State.reset` is. The spec leaves
it open (R8). No statement rests on it. -/
def Config.resetGatedClick : GatedClick := .accessor

end Sys2Proof
end

