-- ==== Sys2Proof/Syntax.lean ====
section
/-! DEFINITION. The commands of the command port: one constructor per row of spec/opcode_table.json
(spec 30_encoding.md R56 to R58). -/

namespace Sys2Proof

/-- The three commands. None has an operand (R57): what a command works on comes from the state and from the
inputs of its step. The accessors and the reset event are no commands (R58). -/
inductive Instr where
  /-- `NOP`, R101. -/
  | nop
  /-- `READ`, R102. -/
  | read
  /-- `FLUSH`, R104. -/
  | flush
deriving DecidableEq, Repr

end Sys2Proof
end

