-- ==== Sys2Proof/WellFormed.lean ====
section
/-! DEFINITION. Well-formedness of a command, and the legal range of the one configuration value
(spec 30_encoding.md R56, R57; 10_state.md R32). -/

namespace Sys2Proof

/-- Every command is well formed: format C has one field, the opcode, and no operand that could be out of
range (R56, R57). -/
def Instr.wellFormed : Instr → Bool
  | .nop => true
  | .read => true
  | .flush => true

/-- The legal range of `INTERVAL`: 0 to 2^31 - 1 (R7, R32, R155). -/
def Config.intervalInRange (interval : Millis) : Bool :=
  decide (interval.toNat < 2 ^ 31)

end Sys2Proof
end

