-- ==== Sys2Proof/Decode.lean ====
section
/-! DEFINITION. The decoder of the command word, total on every word and rejecting by name, and the encoder
(spec 30_encoding.md R56, R58, R59). -/

namespace Sys2Proof

/-- Why a word is no command. -/
inductive DecodeReject where
  /-- `op = 11`, reserved (R59). Safe: a model refuses it. -/
  | reservedOpcode
  /-- A number with a bit set above bit 1: no command word, since every command is exactly 2 bits long
  (R56). The command port has two wires and cannot carry it, so only `decodeWord` answers this. Safe. -/
  | notTwoBits
deriving DecidableEq, Repr

/-- The opcode map of R58: `00` NOP, `01` READ, `10` FLUSH; `11` is reserved (R59). -/
def decode (cmd : CommandWord) : Except DecodeReject Instr :=
  if cmd = 0b00#2 then .ok .nop
  else if cmd = 0b01#2 then .ok .read
  else if cmd = 0b10#2 then .ok .flush
  else .error .reservedOpcode

/-- The command word a number stands for: a number below 4, every command being exactly 2 bits (R56). -/
def commandOfNat (w : Nat) : Option CommandWord :=
  if w < 4 then some (BitVec.ofNat 2 w) else none

/-- Decoding of any number, not only of what the port can carry. -/
def decodeWord (w : Nat) : Except DecodeReject Instr :=
  match commandOfNat w with
  | some cmd => decode cmd
  | none => .error .notTwoBits

/-- The command word of a command, from the same opcode map (R58). -/
def encode : Instr → CommandWord
  | .nop => 0b00#2
  | .read => 0b01#2
  | .flush => 0b10#2

/-- The command word that a row's bits are, numbered as spec/opcode_table.json numbers them; the bits above
`nbits` are 0. There is one word and no byte order to choose (R42). -/
def tableCommand (nbits w : Nat) : Option CommandWord :=
  commandOfNat (w % 2 ^ nbits)

/-- What the decoder reads from a row's bits. -/
def decodeTableWord (nbits w : Nat) : Option Instr :=
  match decodeWord (w % 2 ^ nbits) with
  | .ok i => some i
  | .error _ => none

end Sys2Proof
end

