-- ==== Sys2Proof/Machine/State.lean ====
section
/-! DEFINITION. The state of one block instance, the reasons a step can stop, and the state after reset
(spec 10_state.md; 30_encoding.md R55; 70_reset_and_hazards.md R140 to R146). -/

namespace Sys2Proof.Machine

/-- The three channels (R9): the Debounce Sources of pins A and B and the Click Channel. -/
inductive Channel where
  | A
  | B
  | C
deriving DecidableEq, Repr

/-- The input signals of one step (R55, less the constant `INTERVAL`): the block consumes one value of each
per step. They are unconstrained (R14). -/
structure Inputs where
  /-- `rst`: this step is the reset event (R140). -/
  rst : Bool
  /-- `cmd[1:0]`: the command word (R56). -/
  cmd : CommandWord
  /-- `now`: the Monotonic Clock, unsigned milliseconds (R72). -/
  now : Millis
  /-- `pin_a`: level of encoder pin A, true when high (R71). -/
  pinA : Bool
  /-- `pin_b`: level of encoder pin B. -/
  pinB : Bool
  /-- `pin_c`: level of the click button pin. -/
  pinC : Bool
deriving DecidableEq, Repr

/-- What one invocation of the rate-limited decoder returns (R94): the Decode Result (R16, R84) and whether
the gate was open. -/
structure DecodeResult where
  inc : Inc3
  click : Bool
  sampled : Bool
deriving DecidableEq, Repr

/-- One block instance. The first six fields are the complete state of the block (R20); then come the two
parameters of the instance (R7, R8), and the signals of a step: the model's own fields, which hold what the
outside world presents and what a step answers, because a step here goes from State to State (log 1, 8). -/
structure State where
  /-- `hist_a`: the eight most recent samples of pin A, the newest in bit 7 (R21). -/
  histA : Byte
  /-- `hist_b`: the same of pin B. -/
  histB : Byte
  /-- `hist_c`: the same of the click button pin. -/
  histC : Byte
  /-- `next_eligible_time` (R23). -/
  nextEligibleTime : Millis
  /-- `pending_increment`, 8 bits in two's complement (R24). -/
  pendingIncrement : Byte
  /-- `pending_click` (R26). -/
  pendingClick : Bool
  /-- `INTERVAL`, constant for the life of the instance (R7, R31). -/
  interval : Millis
  /-- `GATED_CLICK`, a parameter of the model (R8). -/
  gatedClick : GatedClick
  /-- The input signals of the step being executed, or of the last one executed (R55). -/
  port : Inputs
  /-- What the outside world presents at the steps still to come, the next one first (R159; log 1). -/
  script : List Inputs
  /-- `r_increment[1:0]` of the last step (R62; log 8). -/
  rIncrement : BitVec 2
  /-- `r_click` of the last step (R62). -/
  rClick : Bool
  /-- `r_sampled` of the last step (R62). -/
  rSampled : Bool
  /-- `adv_count`: the ghost count of channel advances, read by no operation (R139, D29; log 9). -/
  advCount : Nat
deriving DecidableEq, Repr

/-- The faults of the block: none. "The block raises no exception of any kind" and has no fault bit, no error
output and no stuck state (R120). -/
inductive Fault where
deriving DecidableEq, Repr

/-- The model's refusals; none is a behaviour of the block (R120). -/
inductive Refusal where
  /-- Raised by an arm of `exec` for an instruction that has no meaning yet; no arm does. Safe. -/
  | notModelled (mnemonic : String)
  /-- Raised by `fetch` on the reserved command word `11` of a step that is no reset (R59, U1). Safe. -/
  | reservedCommand
  /-- Raised by `fetch` at every step of an instance whose `INTERVAL` is out of range (R32, U5; log 6).
  Safe. -/
  | illegalInterval
  /-- Raised by `fetch` when the outside world issues no further step: the run is over (R159; log 2). Safe. -/
  | noStepIssued
deriving DecidableEq, Repr

/-- The input signals of `State.reset`: DESIGN CHOICE all 0, unsafe (log 5). -/
def Inputs.quiet : Inputs :=
  { rst := false, cmd := 0, now := 0, pinA := false, pinB := false, pinC := false }

/-- The state right after reset of an instance made with the given parameters: `S0` of R146, the response
outputs at 0 (R140), the ghost count at 0 (R139), and nothing issued yet. -/
def State.resetOf (interval : Millis) (gatedClick : GatedClick) : State :=
  { histA := 0x00, histB := 0x00, histC := 0x00, nextEligibleTime := 0x00000000
    pendingIncrement := 0, pendingClick := false
    interval := interval, gatedClick := gatedClick
    port := Inputs.quiet, script := []
    rIncrement := 0, rClick := false, rSampled := false, advCount := 0 }

/-- The machine right after reset. The parameters' values are the model's choice (log 3, 4). -/
def State.reset : State :=
  State.resetOf Config.resetInterval Config.resetGatedClick

end Sys2Proof.Machine
end

