-- ==== Sys2Proof/Machine/Operands.lean ====
section
/-! DEFINITION. What a command works on. No command has an operand in its word (spec 30_encoding.md R57); the
operands are the environment reads of the step (00_scope.md R14), the three histories, and the two embeddings
of an increment (R11, R62). -/

namespace Sys2Proof.Machine

/-- `PinRead(ch)` (R71): the level of that channel's pin at this step, with no inversion. -/
def pinRead (ch : Channel) (s : State) : Bool :=
  match ch with
  | .A => s.port.pinA
  | .B => s.port.pinB
  | .C => s.port.pinC

/-- `ClockRead()` (R72): the millisecond count presented at this step. -/
def clockRead (s : State) : Millis :=
  s.port.now

/-- `hist_ch`: the history of a channel (R73). -/
def hist (ch : Channel) (s : State) : Byte :=
  match ch with
  | .A => s.histA
  | .B => s.histB
  | .C => s.histC

/-- An `inc3` as an `i8`, in two's complement (R11): `-1` is `0xFF`. -/
def incToI8 : Inc3 → Byte
  | .minusOne => 0xFF
  | .zero => 0x00
  | .plusOne => 0x01

/-- The 2-bit two's complement code of an `inc3` on `r_increment` (R62); the code `10` never occurs. -/
def incCode : Inc3 → BitVec 2
  | .minusOne => 0b11
  | .zero => 0b00
  | .plusOne => 0b01

end Sys2Proof.Machine
end

