-- ==== Sys2Proof/Machine/Flags.lean ====
section
/-! DEFINITION. Every predicate the block computes: the two tests on a history, the decoding function, the
eligibility test, the write-if-unset rule of the latch (its one stored flag is `pending_click`), and the four
outputs that are functions of the state (spec 40_channel.md, 41_quadrature_decoder.md, 42_rate_limiter.md,
43_event_latch.md; 10_state.md R29, R30). -/

namespace Sys2Proof.Machine

/-- `LEVEL(h)` (R75): the most recent sample, `h[7]`. -/
def level (h : Byte) : Bool :=
  h.getLsbD 7

/-- `RAISED(h)` (R76): the clean-edge pattern. -/
def raised (h : Byte) : Bool :=
  h == 0x80

/-- `QDEC(a, b)` (R82): the reduced two-edge heuristic, kept exactly as given (R81). -/
def qdec (a b : Byte) : Inc3 :=
  if a = 0x80 ∧ b &&& 0xF0 = 0x00 then .plusOne
  else if b = 0x80 ∧ a &&& 0xF0 = 0x00 then .minusOne
  else .zero

/-- `ELIGIBLE(now, net)` (R92): the wrapped difference lies in the lower half range. -/
def eligible (now net : Millis) : Bool :=
  decide (now - net < 0x80000000#32)

/-- `GATED_CLICK_VALUE()` (R96). -/
def gatedClickValue (s : State) : Bool :=
  match s.gatedClick with
  | .accessor => raised s.histC
  | .alwaysFalse => false

/-- Write-if-unset of `pending_increment` (R102): only zero is overwritten; any non-zero value is held (U10). -/
def latchIncrement (old : Byte) (inc : Inc3) : Byte :=
  if old = 0 then incToI8 inc else old

/-- Write-if-unset of `pending_click` (R102). -/
def latchClick (old clk : Bool) : Bool :=
  if old = false then clk else old

/-- Output `increment_o`, the accessor `increment()` (R30, R106). -/
def incrementO (s : State) : Byte :=
  s.pendingIncrement

/-- Output `clicked_o`, the latch's accessor `clicked()` (R30, R107). -/
def clickedO (s : State) : Bool :=
  s.pendingClick

/-- Output `immediate_o`, the accessor `immediate_value()` (R30, R108). -/
def immediateO (s : State) : Bool :=
  level s.histC

/-- Output `raised_o`, the decoder-level accessor `clicked` (R30, R86). -/
def raisedO (s : State) : Bool :=
  raised s.histC

end Sys2Proof.Machine
end

