-- ==== Sys2Proof/Machine/Ops.lean ====
section
/-! DEFINITION. The named operations over the state: the plain field updates, the internal procedures of the
block (spec R66 asks for each as a function of its own), the reset event, which is the block's one operation of
a system kind (R131; there is no exception to take and none to return from, R120, R127, R128), and taking the
next step's inputs from the outside world. -/

namespace Sys2Proof.Machine

/-! ### Field updates -/

/-- `hist_ch <- h`. Only `chAdvance` and the reset event use a write to a history (R22). -/
def State.setHist (s : State) (ch : Channel) (h : Byte) : State :=
  match ch with
  | .A => { s with histA := h }
  | .B => { s with histB := h }
  | .C => { s with histC := h }

/-- `next_eligible_time <- t`. -/
def State.setNextEligibleTime (s : State) (t : Millis) : State :=
  { s with nextEligibleTime := t }

/-- Both latch fields. -/
def State.setLatch (s : State) (inc : Byte) (clk : Bool) : State :=
  { s with pendingIncrement := inc, pendingClick := clk }

/-- The response outputs of a step (R62). -/
def State.respond (s : State) (inc : BitVec 2) (clk sampled : Bool) : State :=
  { s with rIncrement := inc, rClick := clk, rSampled := sampled }

/-- The ghost count, increased by every `CH_ADVANCE` (R139). -/
def State.countAdvance (s : State) : State :=
  { s with advCount := s.advCount + 1 }

/-- The input signals of a step are presented; `rest` is what comes after. -/
def State.present (s : State) (inp : Inputs) (rest : List Inputs) : State :=
  { s with port := inp, script := rest }

/-- No response: on a NOP, FLUSH or reset step all three response outputs are 0 (R62, R140). -/
def State.respondNothing (s : State) : State :=
  s.respond 0 false false

/-! ### The debounced channel -/

/-- `SHIFT(h, s)` (R74): the new sample becomes bit 7, every older one moves one place toward bit 0. -/
def shift (h : Byte) (sample : Bool) : Byte :=
  (BitVec.ofBool sample).zeroExtend 8 <<< 7 ||| h >>> 1

/-- `CH_ADVANCE(ch)` (R73): one sample of the pin is shifted in; the result is the history just written. -/
def chAdvance (ch : Channel) (s : State) : Byte × State :=
  let h := shift (hist ch s) (pinRead ch s)
  (h, (s.setHist ch h).countAdvance)

/-! ### The quadrature decoder -/

/-- `DECODE()` (R84): all three channels advance on every call; the increment and the click signal are read
from the histories just written. -/
def decodeCall (s : State) : (Inc3 × Bool) × State :=
  let (a, s1) := chAdvance .A s
  let (b, s2) := chAdvance .B s1
  let (c, s3) := chAdvance .C s2
  ((qdec a b, raised c), s3)

/-! ### The rate limiter -/

/-- `TIMED_DECODE()` (R94): the gated path changes nothing; the open path reloads `next_eligible_time` with
`now + INTERVAL` modulo 2^32 (R95) and delegates to the decoder. -/
def timedDecode (s : State) : DecodeResult × State :=
  let now := clockRead s
  if eligible now s.nextEligibleTime = false then
    ({ inc := .zero, click := gatedClickValue s, sampled := false }, s)
  else
    let ((inc, clk), s') := decodeCall (s.setNextEligibleTime (now + s.interval))
    ({ inc := inc, click := clk, sampled := true }, s')

/-! ### The event latch -/

/-- The two conditional writes of READ (R102), each on the field's value before the step (R103 (b)). -/
def latchResult (r : DecodeResult) (s : State) : State :=
  s.setLatch (latchIncrement s.pendingIncrement r.inc) (latchClick s.pendingClick r.click)

/-- The response of READ: the three values the rate-limited decoder returned, whether or not the latch took
them (R62, R102). -/
def respondResult (r : DecodeResult) (s : State) : State :=
  s.respond (incCode r.inc) r.click r.sampled

/-- Both latch fields cleared, unconditionally (R104). -/
def clearLatch (s : State) : State :=
  s.setLatch 0 false

/-! ### The reset event -/

/-- The reset event (R140): every state element goes to its reset value (R141 to R145) and the response
outputs to 0; the parameters stay. The ghost count starts again at 0 (R139). -/
def resetEvent (s : State) : State :=
  let s0 := ((s.setHist .A 0x00).setHist .B 0x00).setHist .C 0x00
  let s1 := clearLatch (s0.setNextEligibleTime 0x00000000)
  { s1.respondNothing with advCount := 0 }

/-! ### Taking the inputs of the next step -/

/-- Is this instance's `INTERVAL` legal (R32)? -/
def intervalLegal (s : State) : Bool :=
  Config.intervalInRange s.interval

/-- What the next step is, with its inputs presented: the reset event (`none`, R126: `cmd` is ignored) or a
command; or why there is none: the configuration is refused (R32; log 6), nothing is issued (R159; log 2), or
the command word is reserved (R59). -/
def fetch (s : State) : Except Refusal (Option Instr × State) :=
  if intervalLegal s = false then .error .illegalInterval
  else
    match s.script with
    | [] => .error .noStepIssued
    | inp :: rest =>
      if inp.rst = true then .ok (none, s.present inp rest)
      else
        match decode inp.cmd with
        | .ok i => .ok (some i, s.present inp rest)
        | .error _ => .error .reservedCommand

/-- The signal levels the next step will see besides its command: those of the script's head, or, where
nothing is issued yet, the levels that stand at the port (log 5). -/
def upcomingInputs (s : State) : Inputs :=
  match s.script with
  | [] => s.port
  | inp :: _ => inp

/-- The next step's command becomes the table word `w` (log 10); a number that is no 2-bit word cannot stand
on the port and is issued as the reserved word, which the step refuses (log 11). -/
def issueTableWord (s : State) (nbits w : Nat) : State :=
  let cmd := (tableCommand nbits w).getD 0b11#2
  { s with script := { upcomingInputs s with rst := false, cmd := cmd } :: s.script.tail }

end Sys2Proof.Machine
end

