-- ==== Sys2Proof/Machine/Commands.lean ====
section
/-! DEFINITION. The meanings of the three commands (spec 43_event_latch.md R101, R102, R104). Each is total:
it answers a next state from every state (R120). -/

namespace Sys2Proof.Machine

/-- `NOP` (R101): no state element changes, no input is read; the response outputs are 0. -/
def execNop (s : State) : Host.Outcome State Fault Refusal :=
  .next s.respondNothing

/-- `READ` (R102): the rate-limited decoder is invoked unconditionally, then each latch field is written if
unset, on both paths of the gate; the response carries what the decoder returned. -/
def execRead (s : State) : Host.Outcome State Fault Refusal :=
  let (r, s') := timedDecode s
  .next (respondResult r (latchResult r s'))

/-- `FLUSH` (R104): both latch fields are cleared and nothing else of the block changes; the response outputs
are 0. -/
def execFlush (s : State) : Host.Outcome State Fault Refusal :=
  .next (clearLatch s).respondNothing

end Sys2Proof.Machine
end

