-- ==== Sys2Proof/Machine/Step.lean ====
section
/-! DEFINITION. One step of the block: the inputs are presented, then the reset event happens or the command is
executed (spec 30_encoding.md R55; 60_exceptions.md R126). -/

namespace Sys2Proof.Machine

/-- One step. Its three outcomes: a next state, a fault (never, R120), or a refusal. -/
def step (s : State) : Host.Outcome State Fault Refusal :=
  match fetch s with
  | .error r => .refused r
  | .ok (none, s') => .next (resetEvent s')
  | .ok (some i, s') => exec i s'

/-- `s` with the table word `w` as the command of its very next step (log 10). -/
def State.withFetchWord (s : State) (nbits w : Nat) : State :=
  issueTableWord s nbits w

end Sys2Proof.Machine
end

