-- ==== Sys2Proof/Safety.lean ====
section
/-! DEFINITION. What a run is and what of it the claims speak about (spec 70_reset_and_hazards.md R159, R160),
and the invariant of the block that every step keeps. Nothing of the machine uses this file. -/

namespace Sys2Proof.Machine

/-! ### Kinds of steps -/

/-- A reset step, or a step with a defined command (R159). -/
def Inputs.isDefined (inp : Inputs) : Bool :=
  inp.rst || inp.cmd != 0b11#2

/-- A READ step. -/
def Inputs.isRead (inp : Inputs) : Bool :=
  !inp.rst && inp.cmd == 0b01#2

/-- A FLUSH step. -/
def Inputs.isFlush (inp : Inputs) : Bool :=
  !inp.rst && inp.cmd == 0b10#2

/-- A NOP or a FLUSH step: it neither samples nor resets. -/
def Inputs.isIdle (inp : Inputs) : Bool :=
  !inp.rst && (inp.cmd == 0b00#2 || inp.cmd == 0b10#2)

/-! ### Outcomes and runs -/

/-- The next state of an outcome, if it is one. -/
def nextState? : Host.Outcome State Fault Refusal → Option State
  | .next t => some t
  | .fault _ => none
  | .refused _ => none

/-- `k` steps of the block: `Host.Core.run` of this machine, in its own types. -/
def runSteps : Nat → State → Host.Outcome State Fault Refusal
  | 0, s => .next s
  | k + 1, s =>
    match step s with
    | .next t => runSteps k t
    | .fault f => .fault f
    | .refused r => .refused r

/-- The states after each of the first `k` steps, in order, as far as there are steps. -/
def visited : Nat → State → List State
  | 0, _ => []
  | k + 1, s =>
    match step s with
    | .next t => t :: visited k t
    | .fault _ => []
    | .refused _ => []

/-- The response outputs of a step, as R160 lets the host observe them. -/
def response (t : State) : BitVec 2 × Bool × Bool :=
  (t.rIncrement, t.rClick, t.rSampled)

/-- The responses of the READ steps among the first `k`, in order. -/
def readResponses (k : Nat) (s : State) : List (BitVec 2 × Bool × Bool) :=
  ((visited k s).filter (fun t => t.port.isRead)).map response

/-- The inputs of the accepted samples (R16: the READ steps whose gate is open) among the first `k` steps,
the most recent first. -/
def acceptedSamples (k : Nat) (s : State) : List Inputs :=
  (((visited k s).filter (fun t => t.rSampled)).map State.port).reverse

/-- No reset step among the next `k`. -/
def noReset (k : Nat) (s : State) : Bool :=
  (s.script.take k).all (fun inp => !inp.rst)

/-- Neither a FLUSH nor a reset step among the next `k`. -/
def noFlushNoReset (k : Nat) (s : State) : Bool :=
  (s.script.take k).all (fun inp => !inp.rst && !inp.isFlush)

/-- The six state elements of R20, apart from the rest of State. -/
def elements (s : State) : Byte × Byte × Byte × Millis × Byte × Bool :=
  (s.histA, s.histB, s.histC, s.nextEligibleTime, s.pendingIncrement, s.pendingClick)

/-- What the decoder and the gate work on: the histories, the stored time and the two parameters. -/
def samplingPart (s : State) : Byte × Byte × Byte × Millis × Millis × GatedClick :=
  (s.histA, s.histB, s.histC, s.nextEligibleTime, s.interval, s.gatedClick)

/-! ### The invariant -/

/-- The invariant of the block. `pending_increment` is one of its three values (R25) and `r_increment` is never
`10` (R62). A step that returned an increment or a click leaves the latch holding one (R102). A step that did
not sample returned no increment (R94). After an accepted sample the stored time is one interval after the
clock reading that was accepted and the response is what the histories now say (R94, R84). -/
structure Inv (s : State) : Prop where
  increment_value : s.pendingIncrement = 0xFF ∨ s.pendingIncrement = 0x00 ∨ s.pendingIncrement = 0x01
  code_never_ten : s.rIncrement ≠ 0b10
  increment_latched : s.rIncrement ≠ 0 → s.pendingIncrement ≠ 0
  click_latched : s.rClick = true → s.pendingClick = true
  gated_no_increment : s.rSampled = false → s.rIncrement = 0
  sampled_time : s.rSampled = true → s.nextEligibleTime = s.port.now + s.interval
  sampled_increment : s.rSampled = true → s.rIncrement = incCode (qdec s.histA s.histB)
  sampled_click : s.rSampled = true → s.rClick = raised s.histC

end Sys2Proof.Machine
end

