-- ==== Sys2Proof/Certificates/Slice0/Obligations.lean ====
section
/-! DEFINITION. The statements for the provers. Each docstring names the rule of spec/ it formalises. Where a
rule carries the spec's mark [decision ...] or [derived ...] the docstring says so, and where a clause rests on
a choice of this model it names the log entry. -/

open Sys2Proof Sys2Proof.Machine

/-! ### Encoding and the step -/

/-- R58 (the spec's decisions D4, D26, D30): the opcode map, and no word that stands for anything else: the
accessors and the reset event are no commands. -/
def Obligations.DecoderFollowsTheOpcodeMap : Prop :=
  decode 0b00#2 = .ok .nop ∧ decode 0b01#2 = .ok .read ∧ decode 0b10#2 = .ok .flush ∧
  decode 0b11#2 = .error .reservedOpcode ∧
  ∀ cmd i, decode cmd = .ok i →
    (cmd = 0b00#2 ∧ i = .nop) ∨ (cmd = 0b01#2 ∧ i = .read) ∨ (cmd = 0b10#2 ∧ i = .flush)

/-- Derived from R56 and R58; how the word comes to be issued is the model's choice (log 10). The word of every
well-formed command decodes to that command, at the port and as a table row's bits, and the very next step
after placing it runs exactly that command. -/
def Obligations.EncodedCommandIsDecodedAndRun : Prop :=
  ∀ (i : Instr) (nbits : Nat) (s : State), i.wellFormed = true → 2 ≤ nbits → s.interval.toNat < 2 ^ 31 →
    decode (encode i) = .ok i ∧
    decodeTableWord nbits (encode i).toNat = some i ∧
    step (s.withFetchWord nbits (encode i).toNat) =
      exec i { s with
        port := { upcomingInputs s with rst := false, cmd := encode i }
        script := s.script.tail }

/-- Derived from R55 and R58, over the model's script of inputs (log 1): a step whose word decodes to a command
presents the step's inputs and is that command's execution, and nothing else. -/
def Obligations.StepRunsTheDecodedCommand : Prop :=
  ∀ (s : State) (inp : Inputs) (rest : List Inputs) (i : Instr),
    s.interval.toNat < 2 ^ 31 → s.script = inp :: rest → inp.rst = false → decode inp.cmd = .ok i →
      step s = exec i { s with port := inp, script := rest }

/-- R59 (the spec's decision D5): the reserved word is refused, whatever the state and the inputs; it is no
NOP (no next state) and no fault. -/
def Obligations.ReservedCommandIsRefused : Prop :=
  ∀ (s : State) (inp : Inputs) (rest : List Inputs),
    s.interval.toNat < 2 ^ 31 → s.script = inp :: rest → inp.rst = false → inp.cmd = 0b11#2 →
      step s = .refused .reservedCommand

/-- R32 and R155 (the spec's decision D16): a configuration of 2^31 or more is refused, and no other is; and
why: right after an accepted sample at `now` the gate stands open again exactly when the interval is 0 or above
2^31. That the refusal is made at every step is the model's reading (log 6). -/
def Obligations.IntervalOutOfRangeIsRefused : Prop :=
  (∀ s : State, step s = .refused .illegalInterval ↔ 2 ^ 31 ≤ s.interval.toNat) ∧
  (∀ now interval : Millis,
    eligible now (now + interval) = true ↔ interval.toNat = 0 ∨ 2 ^ 31 < interval.toNat)

/-- The model's choice (log 2), after R159 "A run therefore ends only because the host issues no further
step": with nothing issued there is no step. -/
def Obligations.NothingIssuedIsNoStep : Prop :=
  ∀ s : State, s.interval.toNat < 2 ^ 31 → s.script = [] → step s = .refused .noStepIssued

/-- R120: every defined command and every reset step, in every state and with every value of the inputs, has a
successor, and no step ever faults. (INTERVAL legal: R120 itself excepts the refusal of an illegal one.) -/
def Obligations.DefinedStepsHaveASuccessorAndNoneFaults : Prop :=
  (∀ (s : State) (inp : Inputs) (rest : List Inputs),
    s.interval.toNat < 2 ^ 31 → s.script = inp :: rest → inp.rst = true ∨ inp.cmd ≠ 0b11#2 →
      ∃ t, step s = .next t) ∧
  (∀ (s : State) (f : Fault), step s ≠ .fault f)

/-! ### Reset -/

/-- R140 with the reset values of R141, R143, R144, R145, and R126 (decisions D12, D14, D24): a reset step sets
every element to its reset value whatever the state, the command word (the reserved one too), the clock and the
pins are; it leaves the two parameters; the response outputs are 0. (The ghost count is no state element: what
becomes of it is left open here and said in AdvanceCountIsThreePerAcceptedSample.) -/
def Obligations.ResetStepSetsEveryElement : Prop :=
  ∀ (s : State) (inp : Inputs) (rest : List Inputs),
    s.interval.toNat < 2 ^ 31 → s.script = inp :: rest → inp.rst = true →
      ∃ count, step s = .next
        { histA := 0x00, histB := 0x00, histC := 0x00, nextEligibleTime := 0x00000000
          pendingIncrement := 0, pendingClick := false
          interval := s.interval, gatedClick := s.gatedClick
          port := inp, script := rest
          rIncrement := 0, rClick := false, rSampled := false, advCount := count }

/-- R146, the spec's own inference [derived: from rules R141, R143, R144 and R145]: the reset state is `S0` and
the outputs after reset, for every value of the two parameters, and for `State.reset` itself. -/
def Obligations.ResetStateIsS0 : Prop :=
  ∀ s : State, (s = State.reset ∨ ∃ interval gatedClick, s = State.resetOf interval gatedClick) →
    elements s = (0x00, 0x00, 0x00, 0x00000000, 0, false) ∧
    incrementO s = 0x00 ∧ clickedO s = false ∧ immediateO s = false ∧ raisedO s = false

/-- R98 and R148, the spec's own inferences [derived ...]: the first READ after reset samples exactly when the
clock reads below 2^31, and a pin that is high then reports an event at once: A alone +1, B alone -1, both 0,
the button a click. -/
def Obligations.FirstReadAfterReset : Prop :=
  ∀ (interval : Millis) (gatedClick : GatedClick) (inp : Inputs) (t : State),
    exec .read { State.resetOf interval gatedClick with port := inp } = .next t →
      (t.rSampled = true ↔ inp.now.toNat < 2 ^ 31) ∧
      (t.rSampled = true →
        t.rIncrement.signExtend 8 =
          (if inp.pinA = true ∧ inp.pinB = false then 0x01#8
           else if inp.pinB = true ∧ inp.pinA = false then 0xFF#8 else 0x00#8) ∧
        t.rClick = inp.pinC ∧ incrementO t = t.rIncrement.signExtend 8 ∧ clickedO t = inp.pinC)

/-! ### The debounced channel -/

/-- R74 (the spec's decision D6): where each bit goes, the value, the two fixed points, and from which
histories a high sample makes the clean edge. -/
def Obligations.ShiftPutsTheNewestSampleInBitSeven : Prop :=
  ∀ (h : Byte) (sample : Bool),
    (shift h sample).getLsbD 7 = sample ∧
    (∀ i, i < 7 → (shift h sample).getLsbD i = h.getLsbD (i + 1)) ∧
    (shift h sample).toNat = sample.toNat * 128 + h.toNat / 2 ∧
    (shift h sample = h ↔ (h = 0x00 ∧ sample = false) ∨ (h = 0xFF ∧ sample = true)) ∧
    (shift h true = 0x80 ↔ h = 0x00 ∨ h = 0x01)

/-- R73: one advance of a channel takes one sample of that channel's own pin, returns the history after the
write, and changes nothing but that history (and the ghost count of R139); and nothing else ever writes a
history: a command either leaves all three or advances all three. -/
def Obligations.ChannelAdvanceTakesOneSample : Prop :=
  (∀ (i : Instr) (s t : State), exec i s = .next t →
    (∀ ch, hist ch t = hist ch s) ∨ (∀ ch, hist ch t = (chAdvance ch s).1)) ∧
  ∀ (ch : Channel) (s : State),
    (chAdvance ch s).1 = shift (hist ch s) (pinRead ch s) ∧
    hist ch (chAdvance ch s).2 = (chAdvance ch s).1 ∧
    (∀ other, other ≠ ch → hist other (chAdvance ch s).2 = hist other s) ∧
    { (chAdvance ch s).2 with
      histA := s.histA, histB := s.histB, histC := s.histC, advCount := s.advCount } = s ∧
    (chAdvance ch s).2.advCount = s.advCount + 1

/-- Derived from R71 and R84 (the spec's decision D23): the order in which channels are advanced cannot be
observed, neither in the state nor in the histories returned. -/
def Obligations.ChannelOrderIsUnobservable : Prop :=
  ∀ (x y : Channel) (s : State), x ≠ y →
    (chAdvance y (chAdvance x s).2).2 = (chAdvance x (chAdvance y s).2).2 ∧
    (chAdvance y (chAdvance x s).2).1 = (chAdvance y s).1

/-- R75 (the spec's decision D10): the level is the newest sample, it is low after reset, and it moves only at
an accepted sample or a reset, whatever the pin does. -/
def Obligations.LevelMovesOnlyAtAcceptedSamples : Prop :=
  (∀ h : Byte, level h = h.getLsbD 7) ∧
  (∀ s : State, immediateO s = level s.histC) ∧
  (∀ interval gatedClick, immediateO (State.resetOf interval gatedClick) = false) ∧
  (∀ s t : State, step s = .next t → t.port.rst = false → t.rSampled = false → immediateO t = immediateO s)

/-- R76 (the spec's decisions D8, D9): the pattern; it needs a high sample after seven low ones; the next
accepted sample ends it; gated READ, NOP and FLUSH steps keep it. -/
def Obligations.RaisedIsTheCleanEdgePattern : Prop :=
  (∀ h : Byte, raised h = true ↔ h = 0x80) ∧
  (∀ (h : Byte) (sample : Bool),
    raised (shift h sample) = true ↔ sample = true ∧ ∀ i, 1 ≤ i → i < 8 → h.getLsbD i = false) ∧
  (∀ (h : Byte) (sample : Bool), raised h = true →
    raised (shift h sample) = false ∧ shift h sample = if sample then 0xC0 else 0x40) ∧
  (∀ s t : State, step s = .next t → t.port.rst = false → t.rSampled = false → raisedO t = raisedO s)

/-- Derived from R22 (decision D1) and R73: along a step a history either stays, or is cleared by a reset, or
takes exactly one sample of its own pin at an accepted READ; the three move together (R85). -/
def Obligations.HistoriesChangeOnlyBySampling : Prop :=
  ∀ s t : State, step s = .next t →
    (t.port.rst = true → ∀ ch, hist ch t = 0x00) ∧
    (t.port.rst = false → t.rSampled = true →
      t.port.cmd = 0b01#2 ∧ ∀ ch, hist ch t = shift (hist ch s) (pinRead ch t)) ∧
    (t.port.rst = false → t.rSampled = false → ∀ ch, hist ch t = hist ch s)

/-! ### The quadrature decoder -/

/-- R82, in the document's own words about samples: +1 exactly when A's newest sample is high and its seven
older ones low while B's four newest are low; -1 for the mirror case; 0 otherwise. -/
def Obligations.QdecReportsCleanLeadingEdges : Prop :=
  ∀ a b : Byte,
    (qdec a b = .plusOne ↔
      (a.getLsbD 7 = true ∧ ∀ i, i < 7 → a.getLsbD i = false) ∧ ∀ i, 4 ≤ i → i < 8 → b.getLsbD i = false) ∧
    (qdec a b = .minusOne ↔
      (b.getLsbD 7 = true ∧ ∀ i, i < 7 → b.getLsbD i = false) ∧ ∀ i, 4 ≤ i → i < 8 → a.getLsbD i = false) ∧
    (qdec a b = .zero ↔ qdec a b ≠ .plusOne ∧ qdec a b ≠ .minusOne)

/-- R83 (a) to (h), the spec's own inference [derived: from rule R82]: the two conditions exclude each other;
the tie; the untested low nibble; what defeats an edge; the counts over all 65536 pairs; steady levels; falling
edges. -/
def Obligations.QdecCornerCases : Prop :=
  (∀ a b : Byte, ¬ ((a = 0x80 ∧ b &&& 0xF0 = 0) ∧ (b = 0x80 ∧ a &&& 0xF0 = 0))) ∧
  qdec 0x80 0x80 = .zero ∧
  (∀ b : Byte, b.toNat < 16 → qdec 0x80 b = .plusOne ∧ qdec b 0x80 = .minusOne) ∧
  (∀ a b : Byte, a ≠ 0x80 → b ≠ 0x80 → qdec a b = .zero) ∧
  (∀ b : Byte, 16 ≤ b.toNat → qdec 0x80 b = .zero ∧ qdec b 0x80 = .zero) ∧
  ((List.range 256).map fun a => (List.range 256).countP fun b =>
    qdec (BitVec.ofNat 8 a) (BitVec.ofNat 8 b) = .plusOne).sum = 16 ∧
  ((List.range 256).map fun a => (List.range 256).countP fun b =>
    qdec (BitVec.ofNat 8 a) (BitVec.ofNat 8 b) = .minusOne).sum = 16 ∧
  ((List.range 256).map fun a => (List.range 256).countP fun b =>
    qdec (BitVec.ofNat 8 a) (BitVec.ofNat 8 b) = .zero).sum = 65504 ∧
  qdec 0x00 0x00 = .zero ∧ qdec 0xFF 0xFF = .zero ∧ qdec 0x7F 0x00 = .zero

/-- R84 (the order is decision D23): a decoder call advances all three channels by one sample each, whatever
they show; the increment is read from the new histories of A and B alone and the click from the new history of
C alone; nothing else changes but the ghost count (R139). -/
def Obligations.DecodeCallAdvancesAllThreeChannels : Prop :=
  ∀ s : State,
    (∀ ch, hist ch (decodeCall s).2 = shift (hist ch s) (pinRead ch s)) ∧
    (decodeCall s).1 =
      (qdec (decodeCall s).2.histA (decodeCall s).2.histB, raised (decodeCall s).2.histC) ∧
    { (decodeCall s).2 with
      histA := s.histA, histB := s.histB, histC := s.histC, advCount := s.advCount } = s ∧
    (decodeCall s).2.advCount = s.advCount + 3 ∧
    (∀ (c : Byte) (pin : Bool),
      (decodeCall { s with histC := c, port := { s.port with pinC := pin } }).1.1 = (decodeCall s).1.1) ∧
    (∀ (a b : Byte) (pinA pinB : Bool),
      (decodeCall { s with histA := a, histB := b, port := { s.port with pinA := pinA, pinB := pinB } }).1.2 =
        (decodeCall s).1.2)

/-- R124: an accepted sample that leaves both encoder histories at the clean edge returns 0, and sets no
increment. -/
def Obligations.SimultaneousEdgesGiveNoEvent : Prop :=
  ∀ s t : State, exec .read s = .next t → t.rSampled = true → t.histA = 0x80 → t.histB = 0x80 →
    t.rIncrement = 0 ∧ t.pendingIncrement = s.pendingIncrement

/-! ### The rate limiter -/

/-- R92 (the spec's decision D11 and its general knowledge G1): the test on the difference modulo 2^32, on
naturals. -/
def Obligations.EligibleComparesTheWrappedDifference : Prop :=
  ∀ now net : Millis,
    eligible now net = true ↔ (now.toNat + 2 ^ 32 - net.toNat) % 2 ^ 32 < 2 ^ 31

/-- R93 (a) to (e), the spec's own inference [derived: from rule R92]: equality; across the wrap; the edges of
the half range; agreement with the absolute comparison inside one window of length 2^31 without a wrap; and how
long after the stored time the test stays true. -/
def Obligations.EligibleCornerCases : Prop :=
  (∀ t : Millis, eligible t t = true) ∧
  eligible 0x00000005 0xFFFFFFF0 = true ∧ eligible 0xFFFFFFF0 0x00000005 = false ∧
  eligible 0x7FFFFFFF 0 = true ∧ eligible 0x80000000 0 = false ∧
  eligible 0 0x80000001 = true ∧ eligible 0 0x80000000 = false ∧
  (∀ (base : Nat) (now net : Millis),
    base ≤ now.toNat → now.toNat < base + 2 ^ 31 → base ≤ net.toNat → net.toNat < base + 2 ^ 31 →
      (eligible now net = true ↔ net.toNat ≤ now.toNat)) ∧
  (∀ net d : Millis, eligible (net + d) net = true ↔ d.toNat < 2 ^ 31)

/-- R91: on the gated path no channel and no stored time moves, no sample is counted, and no pin is seen: with
any other pin levels the result is the same. -/
def Obligations.GatedReadSeesNoPinAndMovesNoChannel : Prop :=
  ∀ s : State, 2 ^ 31 ≤ (s.port.now - s.nextEligibleTime).toNat →
    (∃ t, exec .read s = .next t ∧ t.histA = s.histA ∧ t.histB = s.histB ∧ t.histC = s.histC ∧
      t.nextEligibleTime = s.nextEligibleTime ∧ t.advCount = s.advCount) ∧
    ∀ a b c : Bool,
      nextState? (exec .read { s with port := { s.port with pinA := a, pinB := b, pinC := c } }) =
        (nextState? (exec .read s)).map fun t =>
          { t with port := { t.port with pinA := a, pinB := b, pinC := c } }

/-- R96 (the spec's decision D15): the two values of the gated click, and the one situation in which they give
different next states: a gated READ with `hist_c` at the clean edge and no click held. The response differs
whenever a READ is gated with `hist_c` at the clean edge. -/
def Obligations.GatedClickReadingsDifferInOneSituation : Prop :=
  (∀ s : State, gatedClickValue { s with gatedClick := .accessor } = raised s.histC ∧
    gatedClickValue { s with gatedClick := .alwaysFalse } = false) ∧
  (∀ s ta tf : State,
    exec .read { s with gatedClick := .accessor } = .next ta →
    exec .read { s with gatedClick := .alwaysFalse } = .next tf →
      (elements ta ≠ elements tf ↔
        2 ^ 31 ≤ (s.port.now - s.nextEligibleTime).toNat ∧ s.histC = 0x80 ∧ s.pendingClick = false) ∧
      (ta.rClick ≠ tf.rClick ↔
        2 ^ 31 ≤ (s.port.now - s.nextEligibleTime).toNat ∧ s.histC = 0x80))

/-- Derived from R94 (the document's property S4 of 95_test_vectors.md): a READ less than INTERVAL milliseconds
after an accepted one is gated, returns 0 and leaves every history, the stored time and the ghost count. -/
def Obligations.SecondReadWithinTheIntervalIsGated : Prop :=
  ∀ (s t : State) (inp : Inputs) (rest : List Inputs),
    step s = .next t → t.rSampled = true →
    t.script = inp :: rest → inp.isRead = true → (inp.now - t.port.now).toNat < t.interval.toNat →
      ∃ u, step t = .next u ∧ u.rSampled = false ∧ u.rIncrement = 0 ∧
        u.histA = t.histA ∧ u.histB = t.histB ∧ u.histC = t.histC ∧
        u.nextEligibleTime = t.nextEligibleTime ∧ u.pendingIncrement = t.pendingIncrement ∧
        u.advCount = t.advCount

/-! ### The commands: what each completes with -/

/-- R101 (decisions D26, D27): NOP completes from every state and changes no element; the response is 0. -/
def Obligations.NopChangesNothing : Prop :=
  ∀ s : State, exec .nop s = .next { s with rIncrement := 0, rClick := false, rSampled := false }

/-- R104: FLUSH completes from every state, clears both latch fields and changes nothing else of the block; the
response is 0. -/
def Obligations.FlushClearsTheLatchAndNothingElse : Prop :=
  ∀ s : State, exec .flush s =
    .next { s with
      pendingIncrement := 0, pendingClick := false, rIncrement := 0, rClick := false, rSampled := false }

/-- R94 and R102, written out whole on both paths of the gate: READ completes from every state. Open (the
difference below 2^31): the three channels take one sample each, the stored time becomes the clock plus
INTERVAL modulo 2^32, each latch field is written if unset, the response carries the result. Gated: increment
0, the click of R96, no other change. Everything not named is unchanged (the ghost count: R139). -/
def Obligations.ReadCompletesOnBothPathsOfTheGate : Prop :=
  ∀ s : State,
    ((s.port.now - s.nextEligibleTime).toNat < 2 ^ 31 →
      exec .read s =
        .next { s with
          histA := shift s.histA s.port.pinA
          histB := shift s.histB s.port.pinB
          histC := shift s.histC s.port.pinC
          nextEligibleTime := s.port.now + s.interval
          pendingIncrement :=
            if s.pendingIncrement = 0 then
              incToI8 (qdec (shift s.histA s.port.pinA) (shift s.histB s.port.pinB))
            else s.pendingIncrement
          pendingClick := s.pendingClick || (shift s.histC s.port.pinC == 0x80)
          rIncrement := incCode (qdec (shift s.histA s.port.pinA) (shift s.histB s.port.pinB))
          rClick := shift s.histC s.port.pinC == 0x80
          rSampled := true
          advCount := s.advCount + 3 }) ∧
    (2 ^ 31 ≤ (s.port.now - s.nextEligibleTime).toNat →
      exec .read s =
        .next { s with
          pendingClick := s.pendingClick || (decide (s.gatedClick = .accessor) && (s.histC == 0x80))
          rIncrement := 0
          rClick := decide (s.gatedClick = .accessor) && (s.histC == 0x80)
          rSampled := false })

/-- Derived from R101, R102, R104: the frame of the commands. No command changes a parameter, the port or what
is still to come; NOP and FLUSH change no history, no stored time and no ghost count; NOP changes no latch
field; a READ that does not sample changes no history, no stored time, no increment and no ghost count. -/
def Obligations.FrameOfTheCommands : Prop :=
  ∀ (i : Instr) (s t : State), exec i s = .next t →
    (t.interval = s.interval ∧ t.gatedClick = s.gatedClick ∧ t.port = s.port ∧ t.script = s.script) ∧
    (i ≠ .read ∨ t.rSampled = false →
      t.histA = s.histA ∧ t.histB = s.histB ∧ t.histC = s.histC ∧
      t.nextEligibleTime = s.nextEligibleTime ∧ t.advCount = s.advCount) ∧
    (i = .nop → t.pendingIncrement = s.pendingIncrement ∧ t.pendingClick = s.pendingClick) ∧
    (i = .read → t.rSampled = false → t.pendingIncrement = s.pendingIncrement)

/-- Derived from R57 (decision D27): NOP and FLUSH ignore every input of their step. -/
def Obligations.NopAndFlushIgnoreTheInputs : Prop :=
  ∀ (i : Instr) (s : State) (p : Inputs), i ≠ .read →
    nextState? (exec i { s with port := p }) =
      (nextState? (exec i s)).map fun t => { t with port := p }

/-- R62 (decision D18): the response of READ is the decoder's result, its code one of three, its sign-extension
the increment; on NOP and FLUSH all three outputs are 0. That the outputs are held in State until the next step
is the model's choice (log 8). -/
def Obligations.ResponseCarriesTheDecodeResult : Prop :=
  (∀ s t : State, exec .read s = .next t →
    (t.rIncrement = 0b00 ∨ t.rIncrement = 0b01 ∨ t.rIncrement = 0b11) ∧
    t.rIncrement.signExtend 8 = incToI8 (timedDecode s).1.inc ∧
    t.rClick = (timedDecode s).1.click ∧
    (t.rSampled = true ↔ eligible s.port.now s.nextEligibleTime = true)) ∧
  (∀ (i : Instr) (s t : State), i ≠ .read → exec i s = .next t →
    t.rIncrement = 0 ∧ t.rClick = false ∧ t.rSampled = false)

/-- R30 (decision D30): the four outputs in every state. -/
def Obligations.OutputsShowTheState : Prop :=
  ∀ s : State,
    incrementO s = s.pendingIncrement ∧ clickedO s = s.pendingClick ∧
    immediateO s = s.histC.getLsbD 7 ∧ (raisedO s = true ↔ s.histC = 0x80)

/-- R109: the two state machines of the latch, each in its own field. Idle takes the value of a READ, zero or
not; Latched keeps its value at every READ; FLUSH goes to Idle; NOP stays. -/
def Obligations.LatchStateMachines : Prop :=
  ∀ s t : State,
    (exec .read s = .next t →
      t.pendingIncrement =
        (if s.pendingIncrement = 0 then t.rIncrement.signExtend 8 else s.pendingIncrement) ∧
      t.pendingClick = (if s.pendingClick = false then t.rClick else s.pendingClick)) ∧
    (exec .flush s = .next t → t.pendingIncrement = 0 ∧ t.pendingClick = false) ∧
    (exec .nop s = .next t → t.pendingIncrement = s.pendingIncrement ∧ t.pendingClick = s.pendingClick)

/-- R105 (a), (b), (d), the spec's own inference [derived: from rule R104]: a second FLUSH in a row is a no-op,
a FLUSH on an idle latch changes no element, and `raised_o` and `immediate_o` are the same after it. -/
def Obligations.FlushIsIdempotent : Prop :=
  ∀ s t : State, exec .flush s = .next t →
    exec .flush t = .next t ∧
    (s.pendingIncrement = 0 → s.pendingClick = false → elements t = elements s) ∧
    raisedO t = raisedO s ∧ immediateO t = immediateO s

/-- Derived from R45 and R74: an accepted READ changes each history unless the shift reproduces it (0x00 with a
low sample, 0xFF with a high one), and the stored time unless the clock plus INTERVAL is its old value. -/
def Obligations.AcceptedReadIsNotIdempotent : Prop :=
  ∀ s t : State, exec .read s = .next t → t.rSampled = true →
    (∀ ch, hist ch t = hist ch s ↔
      (hist ch s = 0x00 ∧ pinRead ch s = false) ∨ (hist ch s = 0xFF ∧ pinRead ch s = true)) ∧
    (t.nextEligibleTime = s.nextEligibleTime ↔ s.port.now + s.interval = s.nextEligibleTime)

/-- R153, the spec's own inference [derived: from rule R96, rule R102 and rule R104]: an accepted READ that
reports a click, a FLUSH, then a gated READ: the click is latched a second time under ACCESSOR and only then. -/
def Obligations.ClickIsRelatchedOnlyUnderAccessor : Prop :=
  ∀ s t u v : State,
    step s = .next t → t.rSampled = true → t.rClick = true →
    step t = .next u → u.port.isFlush = true →
    step u = .next v → v.port.isRead = true → v.rSampled = false →
      (v.pendingClick = true ↔ s.gatedClick = .accessor)

/-! ### Laws of every run -/

/-- Derived from R7, R8 and R140 (the script is the model's, log 1): along every run the two parameters never
change, and the steps consume the inputs in order, one a step. -/
def Obligations.ParametersAreConstantAndInputsAreTakenInOrder : Prop :=
  ∀ (k : Nat) (s t : State), runSteps k s = .next t →
    t.interval = s.interval ∧ t.gatedClick = s.gatedClick ∧
    s.script = (visited k s).map State.port ++ t.script ∧ (visited k s).length = k

/-- R25, R62, R94, R84, R102 (R25 is the spec's own inference): every step keeps the invariant `Inv` of
Sys2Proof/Safety.lean, from every state that has it. -/
def Obligations.EveryStepKeepsTheInvariant : Prop :=
  ∀ s t : State, Inv s → step s = .next t → Inv t

/-- The invariant holds at reset, for every value of the two parameters. -/
def Obligations.ResetStateHasTheInvariant : Prop :=
  Inv State.reset ∧ ∀ interval gatedClick, Inv (State.resetOf interval gatedClick)

/-- R159, R161 and R120 over whole runs (decision D31): from every state with a legal INTERVAL, every script of
reset steps and defined commands runs to its end, with whatever clock and pins. -/
def Obligations.EveryDefinedRunCompletes : Prop :=
  ∀ s : State, s.interval.toNat < 2 ^ 31 → s.script.all Inputs.isDefined = true →
    ∃ t, runSteps s.script.length s = .next t ∧ t.script = []

/-- R159 and R59 (decision D31): a run that contains the reserved word in a step that is no reset has no end
state: it is refused there. -/
def Obligations.RunWithAReservedWordHasNoEndState : Prop :=
  ∀ s : State, s.interval.toNat < 2 ^ 31 → s.script.all Inputs.isDefined = false →
    runSteps s.script.length s = .refused .reservedCommand

/-- R27 and R111, the spec's own inferences [derived ...]: what a latch field holds survives every run without
FLUSH and reset, whatever the decoder emits meanwhile. -/
def Obligations.HeldEventSurvivesUntilFlush : Prop :=
  ∀ (k : Nat) (s t : State), runSteps k s = .next t → noFlushNoReset k s = true →
    (s.pendingIncrement ≠ 0 → t.pendingIncrement = s.pendingIncrement) ∧
    (s.pendingClick = true → t.pendingClick = true)

/-- Derived from R49: after a FLUSH the outputs of the latch show 0 and false until a later READ. -/
def Obligations.LatchStaysClearFromFlushToTheNextRead : Prop :=
  ∀ (k : Nat) (s u t : State), step s = .next u → u.port.isFlush = true →
    runSteps k u = .next t → (u.script.take k).all (fun inp => !inp.isRead) = true →
      incrementO t = 0x00 ∧ clickedO t = false

/-- R110, the spec's own inference [derived: from rule R102 by induction on n]: over READ steps alone, from an
idle field, the latch ends with the first non-zero increment the decoder returned, and the click is held if the
decoder returned one at all. For both values of GATED_CLICK and every legal INTERVAL. -/
def Obligations.FirstNonZeroWins : Prop :=
  ∀ s : State, s.interval.toNat < 2 ^ 31 → s.script.all Inputs.isRead = true →
    ∃ t, runSteps s.script.length s = .next t ∧
      (readResponses s.script.length s).length = s.script.length ∧
      (s.pendingIncrement = 0 → t.pendingIncrement =
        (((readResponses s.script.length s).map fun r => r.1.signExtend 8).find? (· != 0x00#8)).getD 0x00#8) ∧
      (s.pendingClick = false → t.pendingClick = (readResponses s.script.length s).any (fun r => r.2.1))

/-- R114, the spec's own inference [derived ...]: two runs from states that agree on the histories, the stored
time and the parameters, whose scripts have the same READ and reset steps, return the same Decode Results, step
for step, whatever NOP and FLUSH steps stand between and whatever the latches hold. -/
def Obligations.DecodeResultsIgnoreFlushNopAndLatch : Prop :=
  ∀ s s' : State, s.interval.toNat < 2 ^ 31 → samplingPart s = samplingPart s' →
    s.script.all Inputs.isDefined = true → s'.script.all Inputs.isDefined = true →
    s.script.filter (fun inp => !inp.isIdle) = s'.script.filter (fun inp => !inp.isIdle) →
      readResponses s.script.length s = readResponses s'.script.length s'

/-- R21 (decisions D6, D7), over every run without a reset, for all three channels at once (R85): bit 7-j of a
history is the pin's level at the j-th most recent accepted sample, and where the run has not taken so many,
the bit the history began with, moved down one place per sample. -/
def Obligations.HistoriesHoldTheLastEightAcceptedSamples : Prop :=
  ∀ (k : Nat) (s t : State), runSteps k s = .next t → noReset k s = true →
    ∀ j, j < 8 →
      t.histA.getLsbD (7 - j) =
        (((acceptedSamples k s)[j]?.map Inputs.pinA).getD
          (s.histA.getLsbD (7 - j + (acceptedSamples k s).length))) ∧
      t.histB.getLsbD (7 - j) =
        (((acceptedSamples k s)[j]?.map Inputs.pinB).getD
          (s.histB.getLsbD (7 - j + (acceptedSamples k s).length))) ∧
      t.histC.getLsbD (7 - j) =
        (((acceptedSamples k s)[j]?.map Inputs.pinC).getD
          (s.histC.getLsbD (7 - j + (acceptedSamples k s).length)))

/-- Derived from R139 (decision D29): over every run without a reset the ghost count grows by three times the
number of accepted samples; it starts at 0 at reset, and a reset step starts it again (the model's reading,
log 9). -/
def Obligations.AdvanceCountIsThreePerAcceptedSample : Prop :=
  (∀ (k : Nat) (s t : State), runSteps k s = .next t → noReset k s = true →
    t.advCount = s.advCount + 3 * (acceptedSamples k s).length) ∧
  (∀ interval gatedClick, (State.resetOf interval gatedClick).advCount = 0) ∧
  (∀ s t : State, step s = .next t → t.port.rst = true → t.advCount = 0)

/-- Derived from R94 and R97: two successive accepted samples are never closer than INTERVAL milliseconds on
the wrapping clock, however many steps stand between them. (No sample between: the ghost count of R139 stands
still.) -/
def Obligations.AcceptedSamplesAreAtLeastIntervalApart : Prop :=
  ∀ (k : Nat) (s0 s1 s2 s3 : State),
    step s0 = .next s1 → s1.rSampled = true →
    runSteps k s1 = .next s2 → noReset k s1 = true → s2.advCount = s1.advCount →
    step s2 = .next s3 → s3.rSampled = true →
      s1.interval.toNat ≤ (s3.port.now - s1.port.now).toNat

/-- R152 and R87, the spec's own inferences [derived ...], in accepted samples (three channel advances each,
R139): two detents the decoder emits with no reset between are at least four samples apart, and at least eight
when they have the same direction. -/
def Obligations.EmittedDetentsAreSpacedBySamples : Prop :=
  ∀ (k : Nat) (s0 s1 s2 s3 : State),
    step s0 = .next s1 → s1.rIncrement ≠ 0 →
    runSteps k s1 = .next s2 → noReset k s1 = true →
    step s2 = .next s3 → s3.rIncrement ≠ 0 →
      s1.advCount + 3 * 4 ≤ s3.advCount ∧
      (s3.rIncrement = s1.rIncrement → s1.advCount + 3 * 8 ≤ s3.advCount)

/-- Derived from R96, R153 and conflict C1 of 90_conflicts.md: under GATED_CLICK = FALSE no press is reported
twice. Whenever the click field is set twice with no reset between, at least eight accepted samples lie between
the two (seven low ones and a new edge), however often the host flushed. -/
def Obligations.NoPressIsLatchedTwiceUnderFalse : Prop :=
  ∀ (k : Nat) (s0 s1 s2 s3 : State),
    s0.gatedClick = .alwaysFalse →
    step s0 = .next s1 → s0.pendingClick = false → s1.pendingClick = true →
    runSteps k s1 = .next s2 → noReset k s1 = true →
    step s2 = .next s3 → s2.pendingClick = false → s3.pendingClick = true →
      s1.advCount + 3 * 8 ≤ s3.advCount
end

