-- ==== Sys2Proof/Laws/State.lean ====
section
/-! SUPPORT. One lemma per field per update of the state, each true by rfl, so that no later proof unfolds a
record update. -/

namespace Sys2Proof.Machine

variable (s : State)

/-! ### setHist .A -/

@[simp] theorem State.setHistA_histA (h : Byte) : (s.setHist .A h).histA = h := rfl
@[simp] theorem State.setHistA_histB (h : Byte) : (s.setHist .A h).histB = s.histB := rfl
@[simp] theorem State.setHistA_histC (h : Byte) : (s.setHist .A h).histC = s.histC := rfl
@[simp] theorem State.setHistA_nextEligibleTime (h : Byte) : (s.setHist .A h).nextEligibleTime = s.nextEligibleTime := rfl
@[simp] theorem State.setHistA_pendingIncrement (h : Byte) : (s.setHist .A h).pendingIncrement = s.pendingIncrement := rfl
@[simp] theorem State.setHistA_pendingClick (h : Byte) : (s.setHist .A h).pendingClick = s.pendingClick := rfl
@[simp] theorem State.setHistA_interval (h : Byte) : (s.setHist .A h).interval = s.interval := rfl
@[simp] theorem State.setHistA_gatedClick (h : Byte) : (s.setHist .A h).gatedClick = s.gatedClick := rfl
@[simp] theorem State.setHistA_port (h : Byte) : (s.setHist .A h).port = s.port := rfl
@[simp] theorem State.setHistA_script (h : Byte) : (s.setHist .A h).script = s.script := rfl
@[simp] theorem State.setHistA_rIncrement (h : Byte) : (s.setHist .A h).rIncrement = s.rIncrement := rfl
@[simp] theorem State.setHistA_rClick (h : Byte) : (s.setHist .A h).rClick = s.rClick := rfl
@[simp] theorem State.setHistA_rSampled (h : Byte) : (s.setHist .A h).rSampled = s.rSampled := rfl
@[simp] theorem State.setHistA_advCount (h : Byte) : (s.setHist .A h).advCount = s.advCount := rfl

/-! ### setHist .B -/

@[simp] theorem State.setHistB_histA (h : Byte) : (s.setHist .B h).histA = s.histA := rfl
@[simp] theorem State.setHistB_histB (h : Byte) : (s.setHist .B h).histB = h := rfl
@[simp] theorem State.setHistB_histC (h : Byte) : (s.setHist .B h).histC = s.histC := rfl
@[simp] theorem State.setHistB_nextEligibleTime (h : Byte) : (s.setHist .B h).nextEligibleTime = s.nextEligibleTime := rfl
@[simp] theorem State.setHistB_pendingIncrement (h : Byte) : (s.setHist .B h).pendingIncrement = s.pendingIncrement := rfl
@[simp] theorem State.setHistB_pendingClick (h : Byte) : (s.setHist .B h).pendingClick = s.pendingClick := rfl
@[simp] theorem State.setHistB_interval (h : Byte) : (s.setHist .B h).interval = s.interval := rfl
@[simp] theorem State.setHistB_gatedClick (h : Byte) : (s.setHist .B h).gatedClick = s.gatedClick := rfl
@[simp] theorem State.setHistB_port (h : Byte) : (s.setHist .B h).port = s.port := rfl
@[simp] theorem State.setHistB_script (h : Byte) : (s.setHist .B h).script = s.script := rfl
@[simp] theorem State.setHistB_rIncrement (h : Byte) : (s.setHist .B h).rIncrement = s.rIncrement := rfl
@[simp] theorem State.setHistB_rClick (h : Byte) : (s.setHist .B h).rClick = s.rClick := rfl
@[simp] theorem State.setHistB_rSampled (h : Byte) : (s.setHist .B h).rSampled = s.rSampled := rfl
@[simp] theorem State.setHistB_advCount (h : Byte) : (s.setHist .B h).advCount = s.advCount := rfl

/-! ### setHist .C -/

@[simp] theorem State.setHistC_histA (h : Byte) : (s.setHist .C h).histA = s.histA := rfl
@[simp] theorem State.setHistC_histB (h : Byte) : (s.setHist .C h).histB = s.histB := rfl
@[simp] theorem State.setHistC_histC (h : Byte) : (s.setHist .C h).histC = h := rfl
@[simp] theorem State.setHistC_nextEligibleTime (h : Byte) : (s.setHist .C h).nextEligibleTime = s.nextEligibleTime := rfl
@[simp] theorem State.setHistC_pendingIncrement (h : Byte) : (s.setHist .C h).pendingIncrement = s.pendingIncrement := rfl
@[simp] theorem State.setHistC_pendingClick (h : Byte) : (s.setHist .C h).pendingClick = s.pendingClick := rfl
@[simp] theorem State.setHistC_interval (h : Byte) : (s.setHist .C h).interval = s.interval := rfl
@[simp] theorem State.setHistC_gatedClick (h : Byte) : (s.setHist .C h).gatedClick = s.gatedClick := rfl
@[simp] theorem State.setHistC_port (h : Byte) : (s.setHist .C h).port = s.port := rfl
@[simp] theorem State.setHistC_script (h : Byte) : (s.setHist .C h).script = s.script := rfl
@[simp] theorem State.setHistC_rIncrement (h : Byte) : (s.setHist .C h).rIncrement = s.rIncrement := rfl
@[simp] theorem State.setHistC_rClick (h : Byte) : (s.setHist .C h).rClick = s.rClick := rfl
@[simp] theorem State.setHistC_rSampled (h : Byte) : (s.setHist .C h).rSampled = s.rSampled := rfl
@[simp] theorem State.setHistC_advCount (h : Byte) : (s.setHist .C h).advCount = s.advCount := rfl

/-! ### setNextEligibleTime -/

@[simp] theorem State.setNextEligibleTime_histA (t : Millis) : (s.setNextEligibleTime t).histA = s.histA := rfl
@[simp] theorem State.setNextEligibleTime_histB (t : Millis) : (s.setNextEligibleTime t).histB = s.histB := rfl
@[simp] theorem State.setNextEligibleTime_histC (t : Millis) : (s.setNextEligibleTime t).histC = s.histC := rfl
@[simp] theorem State.setNextEligibleTime_nextEligibleTime (t : Millis) : (s.setNextEligibleTime t).nextEligibleTime = t := rfl
@[simp] theorem State.setNextEligibleTime_pendingIncrement (t : Millis) : (s.setNextEligibleTime t).pendingIncrement = s.pendingIncrement := rfl
@[simp] theorem State.setNextEligibleTime_pendingClick (t : Millis) : (s.setNextEligibleTime t).pendingClick = s.pendingClick := rfl
@[simp] theorem State.setNextEligibleTime_interval (t : Millis) : (s.setNextEligibleTime t).interval = s.interval := rfl
@[simp] theorem State.setNextEligibleTime_gatedClick (t : Millis) : (s.setNextEligibleTime t).gatedClick = s.gatedClick := rfl
@[simp] theorem State.setNextEligibleTime_port (t : Millis) : (s.setNextEligibleTime t).port = s.port := rfl
@[simp] theorem State.setNextEligibleTime_script (t : Millis) : (s.setNextEligibleTime t).script = s.script := rfl
@[simp] theorem State.setNextEligibleTime_rIncrement (t : Millis) : (s.setNextEligibleTime t).rIncrement = s.rIncrement := rfl
@[simp] theorem State.setNextEligibleTime_rClick (t : Millis) : (s.setNextEligibleTime t).rClick = s.rClick := rfl
@[simp] theorem State.setNextEligibleTime_rSampled (t : Millis) : (s.setNextEligibleTime t).rSampled = s.rSampled := rfl
@[simp] theorem State.setNextEligibleTime_advCount (t : Millis) : (s.setNextEligibleTime t).advCount = s.advCount := rfl

/-! ### setLatch -/

@[simp] theorem State.setLatch_histA (inc : Byte) (clk : Bool) : (s.setLatch inc clk).histA = s.histA := rfl
@[simp] theorem State.setLatch_histB (inc : Byte) (clk : Bool) : (s.setLatch inc clk).histB = s.histB := rfl
@[simp] theorem State.setLatch_histC (inc : Byte) (clk : Bool) : (s.setLatch inc clk).histC = s.histC := rfl
@[simp] theorem State.setLatch_nextEligibleTime (inc : Byte) (clk : Bool) : (s.setLatch inc clk).nextEligibleTime = s.nextEligibleTime := rfl
@[simp] theorem State.setLatch_pendingIncrement (inc : Byte) (clk : Bool) : (s.setLatch inc clk).pendingIncrement = inc := rfl
@[simp] theorem State.setLatch_pendingClick (inc : Byte) (clk : Bool) : (s.setLatch inc clk).pendingClick = clk := rfl
@[simp] theorem State.setLatch_interval (inc : Byte) (clk : Bool) : (s.setLatch inc clk).interval = s.interval := rfl
@[simp] theorem State.setLatch_gatedClick (inc : Byte) (clk : Bool) : (s.setLatch inc clk).gatedClick = s.gatedClick := rfl
@[simp] theorem State.setLatch_port (inc : Byte) (clk : Bool) : (s.setLatch inc clk).port = s.port := rfl
@[simp] theorem State.setLatch_script (inc : Byte) (clk : Bool) : (s.setLatch inc clk).script = s.script := rfl
@[simp] theorem State.setLatch_rIncrement (inc : Byte) (clk : Bool) : (s.setLatch inc clk).rIncrement = s.rIncrement := rfl
@[simp] theorem State.setLatch_rClick (inc : Byte) (clk : Bool) : (s.setLatch inc clk).rClick = s.rClick := rfl
@[simp] theorem State.setLatch_rSampled (inc : Byte) (clk : Bool) : (s.setLatch inc clk).rSampled = s.rSampled := rfl
@[simp] theorem State.setLatch_advCount (inc : Byte) (clk : Bool) : (s.setLatch inc clk).advCount = s.advCount := rfl

/-! ### respond -/

@[simp] theorem State.respond_histA (inc : BitVec 2) (clk sampled : Bool) : (s.respond inc clk sampled).histA = s.histA := rfl
@[simp] theorem State.respond_histB (inc : BitVec 2) (clk sampled : Bool) : (s.respond inc clk sampled).histB = s.histB := rfl
@[simp] theorem State.respond_histC (inc : BitVec 2) (clk sampled : Bool) : (s.respond inc clk sampled).histC = s.histC := rfl
@[simp] theorem State.respond_nextEligibleTime (inc : BitVec 2) (clk sampled : Bool) : (s.respond inc clk sampled).nextEligibleTime = s.nextEligibleTime := rfl
@[simp] theorem State.respond_pendingIncrement (inc : BitVec 2) (clk sampled : Bool) : (s.respond inc clk sampled).pendingIncrement = s.pendingIncrement := rfl
@[simp] theorem State.respond_pendingClick (inc : BitVec 2) (clk sampled : Bool) : (s.respond inc clk sampled).pendingClick = s.pendingClick := rfl
@[simp] theorem State.respond_interval (inc : BitVec 2) (clk sampled : Bool) : (s.respond inc clk sampled).interval = s.interval := rfl
@[simp] theorem State.respond_gatedClick (inc : BitVec 2) (clk sampled : Bool) : (s.respond inc clk sampled).gatedClick = s.gatedClick := rfl
@[simp] theorem State.respond_port (inc : BitVec 2) (clk sampled : Bool) : (s.respond inc clk sampled).port = s.port := rfl
@[simp] theorem State.respond_script (inc : BitVec 2) (clk sampled : Bool) : (s.respond inc clk sampled).script = s.script := rfl
@[simp] theorem State.respond_rIncrement (inc : BitVec 2) (clk sampled : Bool) : (s.respond inc clk sampled).rIncrement = inc := rfl
@[simp] theorem State.respond_rClick (inc : BitVec 2) (clk sampled : Bool) : (s.respond inc clk sampled).rClick = clk := rfl
@[simp] theorem State.respond_rSampled (inc : BitVec 2) (clk sampled : Bool) : (s.respond inc clk sampled).rSampled = sampled := rfl
@[simp] theorem State.respond_advCount (inc : BitVec 2) (clk sampled : Bool) : (s.respond inc clk sampled).advCount = s.advCount := rfl

/-! ### respondNothing -/

@[simp] theorem State.respondNothing_histA : (s.respondNothing).histA = s.histA := rfl
@[simp] theorem State.respondNothing_histB : (s.respondNothing).histB = s.histB := rfl
@[simp] theorem State.respondNothing_histC : (s.respondNothing).histC = s.histC := rfl
@[simp] theorem State.respondNothing_nextEligibleTime : (s.respondNothing).nextEligibleTime = s.nextEligibleTime := rfl
@[simp] theorem State.respondNothing_pendingIncrement : (s.respondNothing).pendingIncrement = s.pendingIncrement := rfl
@[simp] theorem State.respondNothing_pendingClick : (s.respondNothing).pendingClick = s.pendingClick := rfl
@[simp] theorem State.respondNothing_interval : (s.respondNothing).interval = s.interval := rfl
@[simp] theorem State.respondNothing_gatedClick : (s.respondNothing).gatedClick = s.gatedClick := rfl
@[simp] theorem State.respondNothing_port : (s.respondNothing).port = s.port := rfl
@[simp] theorem State.respondNothing_script : (s.respondNothing).script = s.script := rfl
@[simp] theorem State.respondNothing_rIncrement : (s.respondNothing).rIncrement = 0 := rfl
@[simp] theorem State.respondNothing_rClick : (s.respondNothing).rClick = false := rfl
@[simp] theorem State.respondNothing_rSampled : (s.respondNothing).rSampled = false := rfl
@[simp] theorem State.respondNothing_advCount : (s.respondNothing).advCount = s.advCount := rfl

/-! ### countAdvance -/

@[simp] theorem State.countAdvance_histA : (s.countAdvance).histA = s.histA := rfl
@[simp] theorem State.countAdvance_histB : (s.countAdvance).histB = s.histB := rfl
@[simp] theorem State.countAdvance_histC : (s.countAdvance).histC = s.histC := rfl
@[simp] theorem State.countAdvance_nextEligibleTime : (s.countAdvance).nextEligibleTime = s.nextEligibleTime := rfl
@[simp] theorem State.countAdvance_pendingIncrement : (s.countAdvance).pendingIncrement = s.pendingIncrement := rfl
@[simp] theorem State.countAdvance_pendingClick : (s.countAdvance).pendingClick = s.pendingClick := rfl
@[simp] theorem State.countAdvance_interval : (s.countAdvance).interval = s.interval := rfl
@[simp] theorem State.countAdvance_gatedClick : (s.countAdvance).gatedClick = s.gatedClick := rfl
@[simp] theorem State.countAdvance_port : (s.countAdvance).port = s.port := rfl
@[simp] theorem State.countAdvance_script : (s.countAdvance).script = s.script := rfl
@[simp] theorem State.countAdvance_rIncrement : (s.countAdvance).rIncrement = s.rIncrement := rfl
@[simp] theorem State.countAdvance_rClick : (s.countAdvance).rClick = s.rClick := rfl
@[simp] theorem State.countAdvance_rSampled : (s.countAdvance).rSampled = s.rSampled := rfl
@[simp] theorem State.countAdvance_advCount : (s.countAdvance).advCount = s.advCount + 1 := rfl

/-! ### present -/

@[simp] theorem State.present_histA (inp : Inputs) (rest : List Inputs) : (s.present inp rest).histA = s.histA := rfl
@[simp] theorem State.present_histB (inp : Inputs) (rest : List Inputs) : (s.present inp rest).histB = s.histB := rfl
@[simp] theorem State.present_histC (inp : Inputs) (rest : List Inputs) : (s.present inp rest).histC = s.histC := rfl
@[simp] theorem State.present_nextEligibleTime (inp : Inputs) (rest : List Inputs) : (s.present inp rest).nextEligibleTime = s.nextEligibleTime := rfl
@[simp] theorem State.present_pendingIncrement (inp : Inputs) (rest : List Inputs) : (s.present inp rest).pendingIncrement = s.pendingIncrement := rfl
@[simp] theorem State.present_pendingClick (inp : Inputs) (rest : List Inputs) : (s.present inp rest).pendingClick = s.pendingClick := rfl
@[simp] theorem State.present_interval (inp : Inputs) (rest : List Inputs) : (s.present inp rest).interval = s.interval := rfl
@[simp] theorem State.present_gatedClick (inp : Inputs) (rest : List Inputs) : (s.present inp rest).gatedClick = s.gatedClick := rfl
@[simp] theorem State.present_port (inp : Inputs) (rest : List Inputs) : (s.present inp rest).port = inp := rfl
@[simp] theorem State.present_script (inp : Inputs) (rest : List Inputs) : (s.present inp rest).script = rest := rfl
@[simp] theorem State.present_rIncrement (inp : Inputs) (rest : List Inputs) : (s.present inp rest).rIncrement = s.rIncrement := rfl
@[simp] theorem State.present_rClick (inp : Inputs) (rest : List Inputs) : (s.present inp rest).rClick = s.rClick := rfl
@[simp] theorem State.present_rSampled (inp : Inputs) (rest : List Inputs) : (s.present inp rest).rSampled = s.rSampled := rfl
@[simp] theorem State.present_advCount (inp : Inputs) (rest : List Inputs) : (s.present inp rest).advCount = s.advCount := rfl

/-! ### clearLatch -/

@[simp] theorem clearLatch_histA : (clearLatch s).histA = s.histA := rfl
@[simp] theorem clearLatch_histB : (clearLatch s).histB = s.histB := rfl
@[simp] theorem clearLatch_histC : (clearLatch s).histC = s.histC := rfl
@[simp] theorem clearLatch_nextEligibleTime : (clearLatch s).nextEligibleTime = s.nextEligibleTime := rfl
@[simp] theorem clearLatch_pendingIncrement : (clearLatch s).pendingIncrement = 0 := rfl
@[simp] theorem clearLatch_pendingClick : (clearLatch s).pendingClick = false := rfl
@[simp] theorem clearLatch_interval : (clearLatch s).interval = s.interval := rfl
@[simp] theorem clearLatch_gatedClick : (clearLatch s).gatedClick = s.gatedClick := rfl
@[simp] theorem clearLatch_port : (clearLatch s).port = s.port := rfl
@[simp] theorem clearLatch_script : (clearLatch s).script = s.script := rfl
@[simp] theorem clearLatch_rIncrement : (clearLatch s).rIncrement = s.rIncrement := rfl
@[simp] theorem clearLatch_rClick : (clearLatch s).rClick = s.rClick := rfl
@[simp] theorem clearLatch_rSampled : (clearLatch s).rSampled = s.rSampled := rfl
@[simp] theorem clearLatch_advCount : (clearLatch s).advCount = s.advCount := rfl

/-! ### latchResult -/

@[simp] theorem latchResult_histA (r : DecodeResult) : (latchResult r s).histA = s.histA := rfl
@[simp] theorem latchResult_histB (r : DecodeResult) : (latchResult r s).histB = s.histB := rfl
@[simp] theorem latchResult_histC (r : DecodeResult) : (latchResult r s).histC = s.histC := rfl
@[simp] theorem latchResult_nextEligibleTime (r : DecodeResult) : (latchResult r s).nextEligibleTime = s.nextEligibleTime := rfl
@[simp] theorem latchResult_pendingIncrement (r : DecodeResult) : (latchResult r s).pendingIncrement = latchIncrement s.pendingIncrement r.inc := rfl
@[simp] theorem latchResult_pendingClick (r : DecodeResult) : (latchResult r s).pendingClick = latchClick s.pendingClick r.click := rfl
@[simp] theorem latchResult_interval (r : DecodeResult) : (latchResult r s).interval = s.interval := rfl
@[simp] theorem latchResult_gatedClick (r : DecodeResult) : (latchResult r s).gatedClick = s.gatedClick := rfl
@[simp] theorem latchResult_port (r : DecodeResult) : (latchResult r s).port = s.port := rfl
@[simp] theorem latchResult_script (r : DecodeResult) : (latchResult r s).script = s.script := rfl
@[simp] theorem latchResult_rIncrement (r : DecodeResult) : (latchResult r s).rIncrement = s.rIncrement := rfl
@[simp] theorem latchResult_rClick (r : DecodeResult) : (latchResult r s).rClick = s.rClick := rfl
@[simp] theorem latchResult_rSampled (r : DecodeResult) : (latchResult r s).rSampled = s.rSampled := rfl
@[simp] theorem latchResult_advCount (r : DecodeResult) : (latchResult r s).advCount = s.advCount := rfl

/-! ### respondResult -/

@[simp] theorem respondResult_histA (r : DecodeResult) : (respondResult r s).histA = s.histA := rfl
@[simp] theorem respondResult_histB (r : DecodeResult) : (respondResult r s).histB = s.histB := rfl
@[simp] theorem respondResult_histC (r : DecodeResult) : (respondResult r s).histC = s.histC := rfl
@[simp] theorem respondResult_nextEligibleTime (r : DecodeResult) : (respondResult r s).nextEligibleTime = s.nextEligibleTime := rfl
@[simp] theorem respondResult_pendingIncrement (r : DecodeResult) : (respondResult r s).pendingIncrement = s.pendingIncrement := rfl
@[simp] theorem respondResult_pendingClick (r : DecodeResult) : (respondResult r s).pendingClick = s.pendingClick := rfl
@[simp] theorem respondResult_interval (r : DecodeResult) : (respondResult r s).interval = s.interval := rfl
@[simp] theorem respondResult_gatedClick (r : DecodeResult) : (respondResult r s).gatedClick = s.gatedClick := rfl
@[simp] theorem respondResult_port (r : DecodeResult) : (respondResult r s).port = s.port := rfl
@[simp] theorem respondResult_script (r : DecodeResult) : (respondResult r s).script = s.script := rfl
@[simp] theorem respondResult_rIncrement (r : DecodeResult) : (respondResult r s).rIncrement = incCode r.inc := rfl
@[simp] theorem respondResult_rClick (r : DecodeResult) : (respondResult r s).rClick = r.click := rfl
@[simp] theorem respondResult_rSampled (r : DecodeResult) : (respondResult r s).rSampled = r.sampled := rfl
@[simp] theorem respondResult_advCount (r : DecodeResult) : (respondResult r s).advCount = s.advCount := rfl

/-! ### resetEvent -/

@[simp] theorem resetEvent_histA : (resetEvent s).histA = 0 := rfl
@[simp] theorem resetEvent_histB : (resetEvent s).histB = 0 := rfl
@[simp] theorem resetEvent_histC : (resetEvent s).histC = 0 := rfl
@[simp] theorem resetEvent_nextEligibleTime : (resetEvent s).nextEligibleTime = 0 := rfl
@[simp] theorem resetEvent_pendingIncrement : (resetEvent s).pendingIncrement = 0 := rfl
@[simp] theorem resetEvent_pendingClick : (resetEvent s).pendingClick = false := rfl
@[simp] theorem resetEvent_interval : (resetEvent s).interval = s.interval := rfl
@[simp] theorem resetEvent_gatedClick : (resetEvent s).gatedClick = s.gatedClick := rfl
@[simp] theorem resetEvent_port : (resetEvent s).port = s.port := rfl
@[simp] theorem resetEvent_script : (resetEvent s).script = s.script := rfl
@[simp] theorem resetEvent_rIncrement : (resetEvent s).rIncrement = 0 := rfl
@[simp] theorem resetEvent_rClick : (resetEvent s).rClick = false := rfl
@[simp] theorem resetEvent_rSampled : (resetEvent s).rSampled = false := rfl
@[simp] theorem resetEvent_advCount : (resetEvent s).advCount = 0 := rfl

end Sys2Proof.Machine
end

