-- ==== Sys2Proof/Laws/Ops.lean ====
section
/-! SUPPORT. For each shared operation one lemma that says all it can do, for later proofs to cite instead of
unfolding it. -/

namespace Sys2Proof.Machine

/-! ### The channel -/

/-- Where each bit of a shifted history comes from (R74). -/
theorem getLsbD_shift (h : Byte) (b : Bool) (i : Nat) :
    (shift h b).getLsbD i = if i = 7 then b else h.getLsbD (i + 1) := by
  by_cases hi : i < 8
  · revert i
    have all : ∀ i : Fin 8, (shift h b).getLsbD i = if i.val = 7 then b else h.getLsbD (i.val + 1) := by
      revert h b
      decide
    exact fun i hi => all ⟨i, hi⟩
  · have hne : i ≠ 7 := by omega
    rw [if_neg hne, BitVec.getLsbD_of_ge _ _ (by omega), BitVec.getLsbD_of_ge _ _ (by omega)]

theorem chAdvance_A (s : State) :
    chAdvance .A s = (shift s.histA s.port.pinA, (s.setHist .A (shift s.histA s.port.pinA)).countAdvance) := rfl

theorem chAdvance_B (s : State) :
    chAdvance .B s = (shift s.histB s.port.pinB, (s.setHist .B (shift s.histB s.port.pinB)).countAdvance) := rfl

theorem chAdvance_C (s : State) :
    chAdvance .C s = (shift s.histC s.port.pinC, (s.setHist .C (shift s.histC s.port.pinC)).countAdvance) := rfl

/-! ### The decoder -/

/-- The two embeddings of an increment agree on which increment is zero. -/
theorem incToI8_eq_zero_iff (inc : Inc3) : incToI8 inc = 0 ↔ inc = .zero := by
  cases inc <;> decide

theorem incCode_eq_zero_iff (inc : Inc3) : incCode inc = 0 ↔ inc = .zero := by
  cases inc <;> decide

/-- The 2-bit code, sign-extended, is the `i8` (R62). -/
theorem signExtend_incCode (inc : Inc3) : (incCode inc).signExtend 8 = incToI8 inc := by
  cases inc <;> decide

/-- When the decoding function answers a forward detent. -/
theorem qdec_plusOne_iff (a b : Byte) : qdec a b = .plusOne ↔ a = 0x80 ∧ b &&& 0xF0 = 0 := by
  unfold qdec
  split
  · simp_all
  · split <;> simp_all

/-- When it answers a reverse detent: the two conditions exclude each other. -/
theorem qdec_minusOne_iff (a b : Byte) : qdec a b = .minusOne ↔ b = 0x80 ∧ a &&& 0xF0 = 0 := by
  unfold qdec
  split
  · next h =>
    obtain ⟨rfl, -⟩ := h
    simp
  · split <;> simp_all

/-- The decoder call as one record: three shifts, and the result read from the shifted histories (R84). -/
theorem decodeCall_eq (s : State) :
    decodeCall s =
      ((qdec (shift s.histA s.port.pinA) (shift s.histB s.port.pinB), raised (shift s.histC s.port.pinC)),
       { s with
          histA := shift s.histA s.port.pinA
          histB := shift s.histB s.port.pinB
          histC := shift s.histC s.port.pinC
          advCount := s.advCount + 3 }) := rfl

/-! ### The rate limiter -/

/-- The eligibility test on naturals. -/
theorem eligible_eq_true_iff (now net : Millis) : eligible now net = true ↔ (now - net).toNat < 2 ^ 31 := by
  simp [eligible, BitVec.lt_def]

/-- The gated path (R94, R91). -/
theorem timedDecode_gated (s : State) (h : eligible s.port.now s.nextEligibleTime = false) :
    timedDecode s = ({ inc := .zero, click := gatedClickValue s, sampled := false }, s) := by
  simp [timedDecode, clockRead, h]

/-- The open path (R94). -/
theorem timedDecode_open (s : State) (h : eligible s.port.now s.nextEligibleTime = true) :
    timedDecode s =
      ({ inc := qdec (shift s.histA s.port.pinA) (shift s.histB s.port.pinB)
         click := raised (shift s.histC s.port.pinC)
         sampled := true },
       { s with
          histA := shift s.histA s.port.pinA
          histB := shift s.histB s.port.pinB
          histC := shift s.histC s.port.pinC
          nextEligibleTime := s.port.now + s.interval
          advCount := s.advCount + 3 }) := by
  simp [timedDecode, clockRead, h, decodeCall_eq, State.setNextEligibleTime]

/-! ### The latch -/

theorem latchIncrement_zero (inc : Inc3) : latchIncrement 0 inc = incToI8 inc := rfl

theorem latchIncrement_of_ne_zero {old : Byte} (h : old ≠ 0) (inc : Inc3) : latchIncrement old inc = old :=
  if_neg h

/-- Write-if-unset of a flag is a disjunction. -/
theorem latchClick_eq_or (old clk : Bool) : latchClick old clk = (old || clk) := by
  cases old <;> rfl

/-! ### Taking the next step's inputs -/

theorem intervalLegal_eq_true_iff (s : State) : intervalLegal s = true ↔ s.interval.toNat < 2 ^ 31 := by
  unfold intervalLegal Config.intervalInRange
  exact decide_eq_true_iff

/-- All that `fetch` can answer when it does not refuse. -/
theorem fetch_ok_cases {s t : State} {c : Option Instr} (h : fetch s = .ok (c, t)) :
    intervalLegal s = true ∧ ∃ inp rest, s.script = inp :: rest ∧ t = s.present inp rest ∧
      ((inp.rst = true ∧ c = none) ∨ (inp.rst = false ∧ ∃ i, decode inp.cmd = .ok i ∧ c = some i)) := by
  unfold fetch at h
  split at h
  · cases h
  · next hl =>
    refine ⟨by simpa using hl, ?_⟩
    split at h
    · cases h
    · next inp rest hs =>
      refine ⟨inp, rest, hs, ?_⟩
      split at h
      · next hr =>
        cases h
        exact ⟨rfl, .inl ⟨hr, rfl⟩⟩
      · next hr =>
        split at h
        · next i hd =>
          cases h
          exact ⟨rfl, .inr ⟨by simpa using hr, i, hd, rfl⟩⟩
        · cases h

/-- Only the reserved word is refused by the decoder of the port (R58, R59). -/
theorem decode_eq_ok_iff (cmd : CommandWord) (i : Instr) : decode cmd = .ok i ↔ encode i = cmd := by
  cases i <;> revert cmd <;> decide

end Sys2Proof.Machine
end

