-- ==== Sys2Proof/Laws/PerInstr.lean ====
section
/-! SUPPORT. The per-instruction family: decoding the encoded command gives it back. -/

namespace Sys2Proof.Laws.EncodingRoundTrip

/-- A well-formed command's word decodes to it. -/
def Statement (i : Instr) : Prop :=
  i.wellFormed = true → decode (encode i) = .ok i

theorem nop : Statement .nop := fun _ => rfl

theorem read : Statement .read := fun _ => rfl

theorem flush : Statement .flush := fun _ => rfl

end Sys2Proof.Laws.EncodingRoundTrip
end

