-- ==== Sys2Proof/Laws/Step.lean ====
section
/-! SUPPORT. What one step can do, said once, and the plain facts about runs. -/

namespace Sys2Proof.Machine

/-- One step, from a state whose script is not empty, in one of its four shapes. Every invariant of the block
goes through this lemma. -/
theorem step_next_cases {s t : State} (h : step s = .next t) :
    intervalLegal s = true ∧ ∃ inp rest, s.script = inp :: rest ∧
      ((inp.rst = true ∧ t = resetEvent (s.present inp rest)) ∨
       (inp.rst = false ∧ inp.cmd = 0b00 ∧ t = (s.present inp rest).respondNothing) ∨
       (inp.rst = false ∧ inp.cmd = 0b01 ∧
         ∃ r s', timedDecode (s.present inp rest) = (r, s') ∧ t = respondResult r (latchResult r s')) ∨
       (inp.rst = false ∧ inp.cmd = 0b10 ∧ t = (clearLatch (s.present inp rest)).respondNothing)) := by
  unfold step at h
  split at h
  · cases h
  · next s' hf =>
    obtain ⟨hl, inp, rest, hs, rfl, ⟨hr, -⟩ | ⟨-, i, -, hc⟩⟩ := fetch_ok_cases hf
    · cases h
      exact ⟨hl, inp, rest, hs, .inl ⟨hr, rfl⟩⟩
    · cases hc
  · next i s' hf =>
    obtain ⟨hl, inp, rest, hs, rfl, ⟨-, hc⟩ | ⟨hr, j, hd, hc⟩⟩ := fetch_ok_cases hf
    · cases hc
    · cases hc
      have hw := (decode_eq_ok_iff inp.cmd i).1 hd
      refine ⟨hl, inp, rest, hs, .inr ?_⟩
      cases i with
      | nop => cases h; exact .inl ⟨hr, hw.symm, rfl⟩
      | read => cases h; exact .inr (.inl ⟨hr, hw.symm, _, _, rfl, rfl⟩)
      | flush => cases h; exact .inr (.inr ⟨hr, hw.symm, rfl⟩)

/-- `runSteps` is the host's `run` of this machine. -/
theorem runSteps_eq_core_run (k : Nat) (s : State) : runSteps k s = Sys2Proof.core.run k s := by
  induction k generalizing s with
  | zero => rfl
  | succ k ih =>
    simp only [runSteps, Host.Core.run]
    have hstep : Sys2Proof.core.step s = step s := rfl
    rw [hstep]
    cases step s with
    | next t => exact ih t
    | fault f => rfl
    | refused r => rfl

theorem runSteps_zero (s : State) : runSteps 0 s = .next s := rfl

/-- A run of `k + 1` steps that arrives is a step and a run of `k`. -/
theorem runSteps_succ_next {k : Nat} {s t : State} (h : runSteps (k + 1) s = .next t) :
    ∃ u, step s = .next u ∧ runSteps k u = .next t := by
  simp only [runSteps] at h
  split at h
  · next u hu => exact ⟨u, hu, h⟩
  · cases h
  · cases h

theorem visited_zero (s : State) : visited 0 s = [] := rfl

theorem visited_succ {s u : State} (h : step s = .next u) (k : Nat) : visited (k + 1) s = u :: visited k u := by
  simp [visited, h]

end Sys2Proof.Machine
end

