-- ==== Sys2Proof/Tests/Slice0.lean ====
section
/-! SUPPORT. The model's own tests: words written out from the spec's opcode map, the spec's vectors of
95_test_vectors.md (each test names its table), refusals, and for every statement with hypotheses a concrete
state and operands that meet them. -/

namespace Sys2Proof.Tests

open Sys2Proof Sys2Proof.Machine

/-! ### Builders -/

/-- The inputs of a READ step, in the order of the spec's listings (R63). -/
def readIn (now : Millis) (a b c : Bool) : Inputs :=
  { rst := false, cmd := 0b01, now := now, pinA := a, pinB := b, pinC := c }

def nopIn : Inputs := { Inputs.quiet with cmd := 0b00 }
def flushIn : Inputs := { Inputs.quiet with cmd := 0b10 }
def reservedIn : Inputs := { Inputs.quiet with cmd := 0b11 }

/-- A reset step, with the reserved word on the command port (R126). -/
def resetIn : Inputs := { Inputs.quiet with rst := true, cmd := 0b11 }

/-- An instance after reset with a script. -/
def after (interval : Millis) (gatedClick : GatedClick) (script : List Inputs) : State :=
  { State.resetOf interval gatedClick with script := script }

/-- The state that a step, or `k` steps, lead to. -/
def nxt (s : State) : State := (nextState? (step s)).getD s
def nxts (k : Nat) (s : State) : State := (nextState? (runSteps k s)).getD s

/-- The state that a command leads to. -/
def did (i : Instr) (s : State) : State := (nextState? (exec i s)).getD s

/-- A state with everything off its reset value (the first row of table 2.8). -/
def busy : State :=
  { after 5 .accessor [] with
    histA := 0xC0, histB := 0x80, histC := 0xFF, nextEligibleTime := 0x12345678
    pendingIncrement := 0xFF, pendingClick := true, rIncrement := 0b11, rSampled := true, advCount := 9 }

/-! ### Decoding: the words of the opcode map (30_encoding.md R58, R59) -/

theorem test_decode_nop_00 : decode (BitVec.ofNat 2 0) = .ok .nop := by decide
theorem test_decode_read_01 : decode (BitVec.ofNat 2 1) = .ok .read := by decide
theorem test_decode_flush_10 : decode (BitVec.ofNat 2 2) = .ok .flush := by decide
theorem test_decode_reserved_11 : decode (BitVec.ofNat 2 3) = .error .reservedOpcode := by decide
theorem test_decodeTableWord :
    decodeTableWord 8 0 = some .nop ∧ decodeTableWord 8 1 = some .read ∧
    decodeTableWord 8 2 = some .flush ∧ decodeTableWord 8 3 = none := by decide
theorem test_decodeWord_rejects_wide_word : decodeWord 0b101 = .error .notTwoBits := by decide

/-! ### Well-formedness: the legal range of INTERVAL (10_state.md R32); a command has nothing to check -/

theorem test_interval_at_the_bound_is_ill_formed : Config.intervalInRange 0x80000000 = false := by decide
theorem test_largest_interval_is_well_formed : Config.intervalInRange 0x7FFFFFFF = true := by decide
theorem test_illegal_interval_refused :
    step (after 0x80000000 .accessor [nopIn]) = .refused .illegalInterval := by rfl
theorem test_every_command_is_well_formed : ∀ i : Instr, i.wellFormed = true := by
  intro i
  cases i <;> rfl

/-! ### The functions, on rows of Part 2 of 95_test_vectors.md -/

/-- Table 2.1. -/
theorem test_shift_vectors :
    shift 0x01 true = 0x80 ∧ shift 0x02 true = 0x81 ∧ shift 0x7F true = 0xBF ∧ shift 0xFF false = 0x7F ∧
    shift 0xAA true = 0xD5 ∧ shift 0x55 false = 0x2A := by decide

/-- Table 2.2. -/
theorem test_raised_level_vectors :
    (raised 0x80 = true ∧ level 0x80 = true) ∧ (raised 0x81 = false ∧ level 0x81 = true) ∧
    (raised 0x7F = false ∧ level 0x7F = false) ∧ (raised 0x01 = false ∧ level 0x01 = false) := by decide

/-- Table 2.3. -/
theorem test_qdec_vectors :
    qdec 0x80 0x0F = .plusOne ∧ qdec 0x80 0x10 = .zero ∧ qdec 0x80 0x80 = .zero ∧ qdec 0x0F 0x80 = .minusOne ∧
    qdec 0x10 0x80 = .zero ∧ qdec 0x81 0x00 = .zero ∧ qdec 0x7F 0x00 = .zero := by decide

/-- Table 2.4. -/
theorem test_eligible_vectors :
    eligible 0 1 = false ∧ eligible 1 1 = true ∧ eligible 0x7FFFFFFF 0 = true ∧ eligible 0x80000000 0 = false ∧
    eligible 5 0xFFFFFFF0 = true ∧ eligible 0xFFFFFFF0 5 = false ∧ eligible 0 0x80000000 = false := by decide

/-- Table 2.6, the row (0x01, 0x1F, 0x00) with pins (1, 0, 0). -/
theorem test_decodeCall_vector :
    let s := { State.reset with histA := 0x01, histB := 0x1F, port := readIn 0 true false false }
    (decodeCall s).1 = (.plusOne, false) ∧ (decodeCall s).2.histA = 0x80 ∧ (decodeCall s).2.histB = 0x0F := by
  decide

/-- Table 2.5, the wrapping row: 0xFFFFFFF0 + 32 is 0x10. -/
theorem test_timedDecode_wraps :
    let s := { State.resetOf 32 .accessor with
      nextEligibleTime := 0x8000001F, port := readIn 0xFFFFFFF0 false false false }
    (timedDecode s).1 = ⟨.zero, false, true⟩ ∧ (timedDecode s).2.nextEligibleTime = 0x10 := by decide

/-- The document's latch property S5 and program P2, at the latch alone. -/
theorem test_latch_first_non_zero_wins :
    [Inc3.zero, .plusOne, .zero, .minusOne, .zero].foldl latchIncrement 0 = 0x01 ∧
    latchIncrement (clearLatch busy).pendingIncrement .minusOne = 0xFF := by decide

/-! ### One step of each command, and reset (tables 2.7, 2.8; programs P1, P5) -/

/-- P1, second line: an accepted READ. -/
theorem test_read_accepted :
    let t := nxt (after 1 .accessor [readIn 0 true false false])
    elements t = (0x80, 0x00, 0x00, 1, 0x01, false) ∧ response t = (0b01, false, true) := by decide

/-- P5, fifth line under both values: a gated READ after a FLUSH, the click history still at 0x80. -/
theorem test_read_gated_both_values :
    let s := fun g => { after 10 g [readIn 5 false false true] with histC := 0x80, nextEligibleTime := 10 }
    (nxt (s .accessor)).pendingClick = true ∧ response (nxt (s .accessor)) = (0, true, false) ∧
    (nxt (s .alwaysFalse)).pendingClick = false ∧ response (nxt (s .alwaysFalse)) = (0, false, false) := by decide

/-- Table 2.7: FLUSH leaves histories and time. -/
theorem test_flush :
    let t := did .flush busy
    elements t = (0xC0, 0x80, 0xFF, 0x12345678, 0, false) ∧ response t = (0, false, false) := by decide

/-- Table 2.7: NOP. -/
theorem test_nop :
    elements (did .nop busy) = elements busy ∧ response (did .nop busy) = (0, false, false) := by decide

/-- Table 2.8: reset under the reserved word. -/
theorem test_reset_ignores_reserved_word :
    elements (nxt { busy with script := [resetIn] }) = (0x00, 0x00, 0x00, 0x00000000, 0, false) := by decide

/-- Table 2.8: the reserved word without reset. -/
theorem test_reserved_word_refused : step (after 1 .accessor [reservedIn]) = .refused .reservedCommand := by rfl

/-- Log 10: the placed word is what the next step runs. -/
theorem test_withFetchWord_runs_read :
    (nxt (State.reset.withFetchWord 8 1)).rSampled = true ∧ (nxt (State.reset.withFetchWord 8 2)).rSampled = false :=
  by decide

/-! ### Witnesses: for each statement with hypotheses, a state and operands that meet them all -/

theorem witness_EncodedCommandIsDecodedAndRun :
    Instr.flush.wellFormed = true ∧ 2 ≤ 2 ∧ (after 0x7FFFFFFF .accessor []).interval.toNat < 2 ^ 31 := by decide

theorem witness_StepRunsTheDecodedCommand :
    let s := after 0x7FFFFFFF .accessor [flushIn, nopIn]
    s.interval.toNat < 2 ^ 31 ∧ s.script = flushIn :: [nopIn] ∧ flushIn.rst = false ∧ decode flushIn.cmd = .ok .flush := by
  decide

theorem witness_ReservedCommandIsRefused :
    let s := after 1 .accessor [reservedIn]
    s.interval.toNat < 2 ^ 31 ∧ s.script = reservedIn :: [] ∧ reservedIn.rst = false ∧ reservedIn.cmd = 0b11#2 := by
  decide

theorem witness_NothingIssuedIsNoStep : State.reset.interval.toNat < 2 ^ 31 ∧ State.reset.script = [] := by decide

theorem witness_DefinedStepsHaveASuccessorAndNoneFaults :
    let s := after 1 .accessor [nopIn]
    let r := after 1 .accessor [resetIn]
    (s.interval.toNat < 2 ^ 31 ∧ s.script = nopIn :: [] ∧ nopIn.rst = false ∧ nopIn.cmd ≠ 0b11#2) ∧
    (r.interval.toNat < 2 ^ 31 ∧ r.script = resetIn :: [] ∧ resetIn.rst = true ∧ resetIn.cmd = 0b11#2) := by decide

theorem witness_ResetStepSetsEveryElement :
    let s := { busy with script := [resetIn, nopIn] }
    s.interval.toNat < 2 ^ 31 ∧ s.script = resetIn :: [nopIn] ∧ resetIn.rst = true := by decide

theorem witness_ResetStateIsS0 :
    ∃ interval gatedClick, State.resetOf 7 .alwaysFalse = State.resetOf interval gatedClick := ⟨_, _, rfl⟩

/-- At the boundary of the clause: the clock at 2^31 - 1 samples, at 2^31 it does not. -/
theorem witness_FirstReadAfterReset :
    let s := fun now => { State.resetOf 1 .accessor with port := readIn now false true true }
    exec .read (s 0x7FFFFFFF) = .next (did .read (s 0x7FFFFFFF)) ∧ (did .read (s 0x7FFFFFFF)).rSampled = true ∧
    exec .read (s 0x80000000) = .next (did .read (s 0x80000000)) ∧ (did .read (s 0x80000000)).rSampled = false :=
  ⟨rfl, by decide, rfl, by decide⟩

theorem witness_ChannelAdvanceTakesOneSample :
    exec .nop busy = .next (did .nop busy) ∧
    exec .read { busy with nextEligibleTime := 0 } = .next (did .read { busy with nextEligibleTime := 0 }) ∧
    Channel.B ≠ Channel.A := ⟨rfl, rfl, by decide⟩

theorem witness_ChannelOrderIsUnobservable : Channel.A ≠ Channel.C := by decide

/-- A gated READ with the button's pin moved. -/
def gatedState : State :=
  { after 10 .accessor [readIn 3 true true false] with histC := 0x80, nextEligibleTime := 10 }

theorem witness_LevelMovesOnlyAtAcceptedSamples :
    step gatedState = .next (nxt gatedState) ∧ (nxt gatedState).port.rst = false ∧ (nxt gatedState).rSampled = false :=
  ⟨rfl, by decide, by decide⟩

theorem witness_RaisedIsTheCleanEdgePattern :
    raised 0x80 = true ∧
    step gatedState = .next (nxt gatedState) ∧ (nxt gatedState).port.rst = false ∧ (nxt gatedState).rSampled = false :=
  ⟨by decide, rfl, by decide, by decide⟩

theorem witness_HistoriesChangeOnlyBySampling :
    let r := { busy with script := [resetIn] }
    let a := after 1 .accessor [readIn 0 true false false]
    (step r = .next (nxt r) ∧ (nxt r).port.rst = true) ∧
    (step a = .next (nxt a) ∧ (nxt a).port.rst = false ∧ (nxt a).rSampled = true) ∧
    (step gatedState = .next (nxt gatedState) ∧ (nxt gatedState).port.rst = false ∧ (nxt gatedState).rSampled = false) :=
  ⟨⟨rfl, by decide⟩, ⟨rfl, by decide, by decide⟩, rfl, by decide, by decide⟩

/-- The two clauses on the other channel meet at 16. -/
theorem witness_QdecCornerCases :
    (0x0F : Byte).toNat < 16 ∧ 16 ≤ (0x10 : Byte).toNat ∧ (0x81 : Byte) ≠ 0x80 ∧ (0x7F : Byte) ≠ 0x80 := by decide

/-- Both encoder pins rise in one accepted sample. -/
def tieState : State := { after 1 .accessor [] with port := readIn 0 true true false }

theorem witness_SimultaneousEdgesGiveNoEvent :
    exec .read tieState = .next (did .read tieState) ∧ (did .read tieState).rSampled = true ∧
    (did .read tieState).histA = 0x80 ∧ (did .read tieState).histB = 0x80 :=
  ⟨rfl, by decide, by decide, by decide⟩

/-- A window that ends where the clock wraps, both values at its edges. -/
theorem witness_EligibleCornerCases :
    2 ^ 31 ≤ (0xFFFFFFFF : Millis).toNat ∧ (0xFFFFFFFF : Millis).toNat < 2 ^ 31 + 2 ^ 31 ∧
    2 ^ 31 ≤ (0x80000000 : Millis).toNat ∧ (0x80000000 : Millis).toNat < 2 ^ 31 + 2 ^ 31 := by decide

theorem witness_GatedReadSeesNoPinAndMovesNoChannel :
    let s := { after 1 .accessor [] with port := readIn 0x80000000 true false false }
    2 ^ 31 ≤ (s.port.now - s.nextEligibleTime).toNat := by decide

/-- On both sides of the equivalence: gated and accepted. -/
theorem witness_GatedClickReadingsDifferInOneSituation :
    let s := { gatedState with port := readIn 3 true true false }
    let a := { gatedState with port := readIn 10 true true false }
    (exec .read { s with gatedClick := .accessor } = .next (did .read { s with gatedClick := .accessor }) ∧
     exec .read { s with gatedClick := .alwaysFalse } = .next (did .read { s with gatedClick := .alwaysFalse })) ∧
    (exec .read { a with gatedClick := .accessor } = .next (did .read { a with gatedClick := .accessor }) ∧
     exec .read { a with gatedClick := .alwaysFalse } = .next (did .read { a with gatedClick := .alwaysFalse })) :=
  ⟨⟨rfl, rfl⟩, rfl, rfl⟩

/-- One millisecond short of the interval. -/
theorem witness_SecondReadWithinTheIntervalIsGated :
    let s := after 10 .accessor [readIn 4 true false false, readIn 13 true false false]
    step s = .next (nxt s) ∧ (nxt s).rSampled = true ∧ (nxt s).script = readIn 13 true false false :: [] ∧
    (readIn 13 true false false).isRead = true ∧
    ((readIn 13 true false false).now - (nxt s).port.now).toNat < (nxt s).interval.toNat :=
  ⟨rfl, by decide, rfl, by decide, by decide⟩

/-- The last difference that samples and the first that does not. -/
theorem witness_ReadCompletesOnBothPathsOfTheGate :
    let s := fun now => { after 1 .accessor [] with port := readIn now true false true }
    ((s 0x7FFFFFFF).port.now - (s 0x7FFFFFFF).nextEligibleTime).toNat < 2 ^ 31 ∧
    2 ^ 31 ≤ ((s 0x80000000).port.now - (s 0x80000000).nextEligibleTime).toNat := by decide

theorem witness_FrameOfTheCommands :
    let g := { gatedState with port := readIn 3 true true false }
    exec .flush busy = .next (did .flush busy) ∧ exec .nop busy = .next (did .nop busy) ∧
    exec .read g = .next (did .read g) ∧ (did .read g).rSampled = false :=
  ⟨rfl, rfl, rfl, by decide⟩

theorem witness_NopAndFlushIgnoreTheInputs : Instr.nop ≠ .read ∧ Instr.flush ≠ .read := by decide

theorem witness_ResponseCarriesTheDecodeResult :
    exec .read tieState = .next (did .read tieState) ∧
    Instr.nop ≠ .read ∧ exec .nop busy = .next (did .nop busy) := ⟨rfl, by decide, rfl⟩

theorem witness_LatchStateMachines :
    exec .read tieState = .next (did .read tieState) ∧ exec .flush busy = .next (did .flush busy) ∧
    exec .nop busy = .next (did .nop busy) := ⟨rfl, rfl, rfl⟩

theorem witness_FlushIsIdempotent :
    exec .flush tieState = .next (did .flush tieState) ∧ tieState.pendingIncrement = 0 ∧ tieState.pendingClick = false :=
  ⟨rfl, by decide, by decide⟩

theorem witness_AcceptedReadIsNotIdempotent :
    exec .read tieState = .next (did .read tieState) ∧ (did .read tieState).rSampled = true := ⟨rfl, by decide⟩

/-- Program P5 from its first READ: accepted, flushed, gated. -/
theorem witness_ClickIsRelatchedOnlyUnderAccessor :
    let s := after 10 .accessor [readIn 0 false false true, flushIn, readIn 5 false false true]
    (step s = .next (nxt s) ∧ (nxt s).rSampled = true ∧ (nxt s).rClick = true) ∧
    (step (nxt s) = .next (nxt (nxt s)) ∧ (nxt (nxt s)).port.isFlush = true) ∧
    (step (nxt (nxt s)) = .next (nxt (nxt (nxt s))) ∧ (nxt (nxt (nxt s))).port.isRead = true ∧
      (nxt (nxt (nxt s))).rSampled = false) :=
  ⟨⟨rfl, by decide, by decide⟩, ⟨rfl, by decide⟩, rfl, by decide, by decide⟩

theorem witness_ParametersAreConstantAndInputsAreTakenInOrder :
    let s := after 1 .accessor [nopIn, resetIn, flushIn]
    runSteps 2 s = .next (nxts 2 s) := rfl

theorem witness_EveryStepKeepsTheInvariant :
    let s := after 1 .accessor [readIn 0 true false true]
    Inv s ∧ step s = .next (nxt s) :=
  ⟨⟨by decide, by decide, by decide, by decide, by decide, by decide, by decide, by decide⟩, rfl⟩

theorem witness_EveryDefinedRunCompletes :
    let s := after 0x7FFFFFFF .accessor [resetIn, nopIn, flushIn, readIn 0 true true true]
    s.interval.toNat < 2 ^ 31 ∧ s.script.all Inputs.isDefined = true := by decide

theorem witness_RunWithAReservedWordHasNoEndState :
    let s := after 1 .accessor [nopIn, reservedIn, nopIn]
    s.interval.toNat < 2 ^ 31 ∧ s.script.all Inputs.isDefined = false := by decide

theorem witness_HeldEventSurvivesUntilFlush :
    let s := { after 0 .accessor [readIn 0 true false true, nopIn] with pendingIncrement := 0xFF, pendingClick := true }
    runSteps 2 s = .next (nxts 2 s) ∧ noFlushNoReset 2 s = true ∧ s.pendingIncrement ≠ 0 ∧ s.pendingClick = true :=
  ⟨rfl, by decide, by decide, by decide⟩

theorem witness_LatchStaysClearFromFlushToTheNextRead :
    let s := { busy with script := [flushIn, nopIn, readIn 0 true true true] }
    step s = .next (nxt s) ∧ (nxt s).port.isFlush = true ∧ runSteps 1 (nxt s) = .next (nxts 1 (nxt s)) ∧
    ((nxt s).script.take 1).all (fun inp => !inp.isRead) = true :=
  ⟨rfl, by decide, rfl, by decide⟩

theorem witness_FirstNonZeroWins :
    let s := after 1 .accessor [readIn 0 false true false, readIn 0 true true true]
    s.interval.toNat < 2 ^ 31 ∧ s.script.all Inputs.isRead = true ∧ s.pendingIncrement = 0 ∧ s.pendingClick = false :=
  by decide

/-- NOP and FLUSH inserted into one script, and a latch that already holds events. -/
theorem witness_DecodeResultsIgnoreFlushNopAndLatch :
    let s := after 1 .accessor [readIn 0 true false true, readIn 1 false true false]
    let s' := { after 1 .accessor [nopIn, readIn 0 true false true, flushIn, readIn 1 false true false, flushIn] with
      pendingIncrement := 0xFF, pendingClick := true }
    s.interval.toNat < 2 ^ 31 ∧ samplingPart s = samplingPart s' ∧ s.script.all Inputs.isDefined = true ∧
    s'.script.all Inputs.isDefined = true ∧
    s.script.filter (fun inp => !inp.isIdle) = s'.script.filter (fun inp => !inp.isIdle) := by decide

/-- Of three steps the middle one samples. -/
def oneSampleRun : State := after 5 .accessor [nopIn, readIn 0 true false true, readIn 4 false false false]

theorem witness_HistoriesHoldTheLastEightAcceptedSamples :
    runSteps 3 oneSampleRun = .next (nxts 3 oneSampleRun) ∧ noReset 3 oneSampleRun = true ∧
    (acceptedSamples 3 oneSampleRun).length = 1 := ⟨rfl, by decide, by decide⟩

theorem witness_AdvanceCountIsThreePerAcceptedSample :
    let r := { busy with script := [resetIn] }
    runSteps 3 oneSampleRun = .next (nxts 3 oneSampleRun) ∧ noReset 3 oneSampleRun = true ∧
    step r = .next (nxt r) ∧ (nxt r).port.rst = true := ⟨rfl, by decide, rfl, by decide⟩

/-- The second sample comes exactly INTERVAL after the first, with a gated READ and a FLUSH between. -/
theorem witness_AcceptedSamplesAreAtLeastIntervalApart :
    let s0 := after 5 .accessor [readIn 0 true false false, readIn 4 false false false, flushIn, readIn 5 false false false]
    let s1 := nxt s0
    let s2 := nxts 2 s1
    step s0 = .next s1 ∧ s1.rSampled = true ∧ runSteps 2 s1 = .next s2 ∧ noReset 2 s1 = true ∧
    s2.advCount = s1.advCount ∧ step s2 = .next (nxt s2) ∧ (nxt s2).rSampled = true :=
  ⟨rfl, by decide, rfl, by decide, by decide, rfl, by decide⟩

/-- A READ of a detent on A, `k` samples with both pins low, then one more detent, with INTERVAL 0. -/
def twoDetents (k : Nat) (a b : Bool) : State :=
  after 0 .accessor (readIn 0 true false false :: (List.replicate k (readIn 0 false false false) ++ [readIn 0 a b false]))

/-- Program P3: four samples from a +1 to a -1. -/
theorem witness_EmittedDetentsAreSpacedBySamples_opposite :
    let s0 := twoDetents 3 false true
    let s1 := nxt s0
    let s2 := nxts 3 s1
    step s0 = .next s1 ∧ s1.rIncrement ≠ 0 ∧ runSteps 3 s1 = .next s2 ∧ noReset 3 s1 = true ∧
    step s2 = .next (nxt s2) ∧ (nxt s2).rIncrement ≠ 0 ∧ (nxt s2).advCount = s1.advCount + 3 * 4 :=
  ⟨rfl, by decide, rfl, by decide, rfl, by decide, by decide⟩

/-- Eight samples from a +1 to the next +1. -/
theorem witness_EmittedDetentsAreSpacedBySamples_same :
    let s0 := twoDetents 7 true false
    let s1 := nxt s0
    let s2 := nxts 7 s1
    step s0 = .next s1 ∧ s1.rIncrement ≠ 0 ∧ runSteps 7 s1 = .next s2 ∧ noReset 7 s1 = true ∧
    step s2 = .next (nxt s2) ∧ (nxt s2).rIncrement = s1.rIncrement ∧ (nxt s2).advCount = s1.advCount + 3 * 8 :=
  ⟨rfl, by decide, rfl, by decide, rfl, by decide, by decide⟩

/-- Two presses under FALSE, the field flushed between, eight samples apart. -/
theorem witness_NoPressIsLatchedTwiceUnderFalse :
    let s0 := after 0 .alwaysFalse
      (readIn 0 false false true :: flushIn ::
        (List.replicate 7 (readIn 0 false false false) ++ [readIn 0 false false true]))
    let s1 := nxt s0
    let s2 := nxts 8 s1
    s0.gatedClick = .alwaysFalse ∧ step s0 = .next s1 ∧ s0.pendingClick = false ∧ s1.pendingClick = true ∧
    runSteps 8 s1 = .next s2 ∧ noReset 8 s1 = true ∧ step s2 = .next (nxt s2) ∧ s2.pendingClick = false ∧
    (nxt s2).pendingClick = true :=
  ⟨rfl, rfl, by decide, by decide, rfl, by decide, rfl, by decide, by decide⟩

end Sys2Proof.Tests
end

section
/-! SUPPORT and proofs. The parameters and the script along a run (spec 00_scope.md R7, R8): what one step does
to them, what a run keeps because every step keeps it, and the obligation of this family. -/

namespace Sys2Proof.Machine

/-! ### The rate-limited decoder leaves the parameters and the signals -/

/-- Neither path of the gate writes a parameter, the port or the script (R94). -/
theorem timedDecode_frame (s : State) :
    (timedDecode s).2.interval = s.interval ∧ (timedDecode s).2.gatedClick = s.gatedClick ∧
    (timedDecode s).2.port = s.port ∧ (timedDecode s).2.script = s.script := by
  cases he : eligible s.port.now s.nextEligibleTime with
  | false => simp [timedDecode_gated s he]
  | true => simp [timedDecode_open s he]

/-! ### One step -/

/-- A step keeps both parameters and takes exactly the head of the script as its inputs. -/
theorem step_keeps_parameters_and_takes_inputs {s t : State} (h : step s = .next t) :
    t.interval = s.interval ∧ t.gatedClick = s.gatedClick ∧ s.script = t.port :: t.script := by
  obtain ⟨-, inp, rest, hs, hcase⟩ := step_next_cases h
  rcases hcase with ⟨-, rfl⟩ | ⟨-, -, rfl⟩ | ⟨-, -, r, s', hd, rfl⟩ | ⟨-, -, rfl⟩
  case inl | inr.inl | inr.inr.inr => simp [hs]
  case inr.inr.inl =>
    have hframe := timedDecode_frame (s.present inp rest)
    simp only [hd] at hframe
    obtain ⟨hinterval, hgated, hport, hscript⟩ := hframe
    simp [hs, hinterval, hgated, hport, hscript]

/-! ### Runs -/

/-- What every step keeps, every run keeps. -/
theorem runSteps_keeps {P : State → Prop} (hstep : ∀ s t : State, P s → step s = .next t → P t)
    {k : Nat} {s t : State} (hrun : runSteps k s = .next t) (hs : P s) : P t := by
  induction k generalizing s with
  | zero => cases hrun; exact hs
  | succ k ih =>
    obtain ⟨u, hu, hrest⟩ := runSteps_succ_next hrun
    exact ih hrest (hstep s u hs hu)

/-- `INTERVAL` and `GATED_CLICK` are constants of the instance (R7, R8). -/
theorem runSteps_keeps_parameters {k : Nat} {s t : State} (hrun : runSteps k s = .next t) :
    t.interval = s.interval ∧ t.gatedClick = s.gatedClick := by
  refine runSteps_keeps (P := fun u => u.interval = s.interval ∧ u.gatedClick = s.gatedClick) ?_ hrun ⟨rfl, rfl⟩
  intro u v ⟨hinterval, hgated⟩ hstep
  obtain ⟨hi, hg, -⟩ := step_keeps_parameters_and_takes_inputs hstep
  exact ⟨hi.trans hinterval, hg.trans hgated⟩

/-- The ports of a run's states, in order, are what the run has taken from the script. -/
theorem script_eq_ports_append {k : Nat} {s t : State} (hrun : runSteps k s = .next t) :
    s.script = (visited k s).map State.port ++ t.script := by
  induction k generalizing s with
  | zero => cases hrun; rfl
  | succ k ih =>
    obtain ⟨u, hu, hrest⟩ := runSteps_succ_next hrun
    obtain ⟨-, -, hscript⟩ := step_keeps_parameters_and_takes_inputs hu
    calc s.script
        = u.port :: u.script := hscript
      _ = u.port :: ((visited k u).map State.port ++ t.script) := by rw [← ih hrest]
      _ = (visited (k + 1) s).map State.port ++ t.script := by simp [visited_succ hu]

/-- A run that arrives after `k` steps visits `k` states. -/
theorem length_visited {k : Nat} {s t : State} (hrun : runSteps k s = .next t) : (visited k s).length = k := by
  induction k generalizing s with
  | zero => rfl
  | succ k ih =>
    obtain ⟨u, hu, hrest⟩ := runSteps_succ_next hrun
    rw [visited_succ hu, List.length_cons, ih hrest]

/-- Settles O37, by induction on the length of the run: every step keeps the parameters and takes the script's
head. -/
theorem parametersAreConstantAndInputsAreTakenInOrder :
    Obligations.ParametersAreConstantAndInputsAreTakenInOrder := by
  intro k s t hrun
  obtain ⟨hinterval, hgated⟩ := runSteps_keeps_parameters hrun
  exact ⟨hinterval, hgated, script_eq_ports_append hrun, length_visited hrun⟩

end Sys2Proof.Machine
end

section
/-! SUPPORT and proofs. The histories along a step and along a run (spec 10_state.md R21, R22, R30): one step
clears, shifts or keeps all three; a run without a reset shifts in its accepted samples, the oldest first. -/

namespace Sys2Proof.Machine

/-! ### The outputs -/

/-- The clean-edge test is a comparison with one history (R76). -/
theorem raised_eq_true_iff (h : Byte) : raised h = true ↔ h = 0x80 := beq_iff_eq

/-- Settles O32: two outputs are fields, `immediate_o` is `LEVEL` and `raised_o` is `RAISED` of `hist_c`. -/
theorem outputsShowTheState : Obligations.OutputsShowTheState :=
  fun s => ⟨rfl, rfl, rfl, raised_eq_true_iff s.histC⟩

/-! ### Histories by channel -/

/-- The level that a step's inputs present at the pin of a channel. -/
def Inputs.pin (ch : Channel) (inp : Inputs) : Bool :=
  match ch with
  | .A => inp.pinA
  | .B => inp.pinB
  | .C => inp.pinC

theorem pinRead_eq_pin (ch : Channel) (s : State) : pinRead ch s = s.port.pin ch := by
  cases ch <;> rfl

section
variable (ch : Channel) (s : State)

@[simp] theorem hist_present (inp : Inputs) (rest : List Inputs) : hist ch (s.present inp rest) = hist ch s := by
  cases ch <;> rfl

@[simp] theorem hist_respondNothing : hist ch s.respondNothing = hist ch s := by
  cases ch <;> rfl

@[simp] theorem hist_clearLatch : hist ch (clearLatch s) = hist ch s := by
  cases ch <;> rfl

@[simp] theorem hist_latchResult (r : DecodeResult) : hist ch (latchResult r s) = hist ch s := by
  cases ch <;> rfl

@[simp] theorem hist_respondResult (r : DecodeResult) : hist ch (respondResult r s) = hist ch s := by
  cases ch <;> rfl

@[simp] theorem hist_resetEvent : hist ch (resetEvent s) = 0 := by
  cases ch <;> rfl

/-- Both paths of the gate: every channel takes one sample of its own pin, or none does (R91, R94). -/
theorem hist_timedDecode :
    hist ch (timedDecode s).2 =
      if (timedDecode s).1.sampled = true then shift (hist ch s) (s.port.pin ch) else hist ch s := by
  cases he : eligible s.port.now s.nextEligibleTime with
  | false => simp [timedDecode_gated s he]
  | true =>
    rw [timedDecode_open s he]
    cases ch <;> rfl

end

/-! ### One step -/

/-- Settles O16: only the reset event and an accepted READ write a history. -/
theorem historiesChangeOnlyBySampling : Obligations.HistoriesChangeOnlyBySampling := by
  intro s t h
  obtain ⟨-, inp, rest, -, hcase⟩ := step_next_cases h
  rcases hcase with ⟨hrst, rfl⟩ | ⟨hrst, -, rfl⟩ | ⟨hrst, hcmd, r, s', hd, rfl⟩ | ⟨hrst, -, rfl⟩
  case inl | inr.inl | inr.inr.inr => simp [hrst]
  case inr.inr.inl =>
    obtain ⟨-, -, hport, -⟩ := timedDecode_frame (s.present inp rest)
    have hhist := fun ch => hist_timedDecode ch (s.present inp rest)
    simp only [hd, hist_present, State.present_port] at hport hhist
    cases hsampled : r.sampled <;> simp [pinRead_eq_pin, hport, hhist, hsampled, hrst, hcmd]

/-! ### Runs -/

/-- A history after a list of samples of its pin, the most recent first, has been shifted in. -/
def shiftIn (ch : Channel) (samples : List Inputs) (h : Byte) : Byte :=
  samples.foldr (fun inp older => shift older (inp.pin ch)) h

/-- Where each bit comes from after any number of shifts (R21): from a sample, or, past the oldest of them,
from the history they were shifted into. -/
theorem getLsbD_shiftIn (ch : Channel) (samples : List Inputs) (h : Byte) {j : Nat} (hj : j < 8) :
    (shiftIn ch samples h).getLsbD (7 - j) =
      (samples[j]?.map (Inputs.pin ch)).getD (h.getLsbD (7 - j + samples.length)) := by
  induction samples generalizing j with
  | nil => rfl
  | cons inp older ih =>
    have hshift : (shiftIn ch (inp :: older) h).getLsbD (7 - j) =
        if 7 - j = 7 then inp.pin ch else (shiftIn ch older h).getLsbD (7 - j + 1) :=
      getLsbD_shift (shiftIn ch older h) (inp.pin ch) (7 - j)
    cases j with
    | zero => exact hshift
    | succ j =>
      have hne : 7 - (j + 1) ≠ 7 := by omega
      have hplace : 7 - (j + 1) + 1 = 7 - j := by omega
      have hbit : 7 - (j + 1) + (older.length + 1) = 7 - j + older.length := by omega
      rw [hshift, if_neg hne, hplace, ih (by omega), List.getElem?_cons_succ, List.length_cons, hbit]

/-- The first step of a run contributes the oldest accepted sample, if it sampled. -/
theorem acceptedSamples_succ {s u : State} (h : step s = .next u) (k : Nat) :
    acceptedSamples (k + 1) s = acceptedSamples k u ++ if u.rSampled = true then [u.port] else [] := by
  cases hsampled : u.rSampled <;> simp [acceptedSamples, visited_succ h, hsampled]

/-- The first step of a run without a reset is none, and neither is any later one. -/
theorem noReset_succ {k : Nat} {s u : State} (h : step s = .next u) (hno : noReset (k + 1) s = true) :
    u.port.rst = false ∧ noReset k u = true := by
  obtain ⟨-, -, hscript⟩ := step_keeps_parameters_and_takes_inputs h
  simpa [noReset, hscript] using hno

/-- Along a run without a reset, each history has shifted in its pin at the accepted samples, the same samples
for the three channels (R22, R85). -/
theorem hist_runSteps {k : Nat} {s t : State} (hrun : runSteps k s = .next t) (hno : noReset k s = true)
    (ch : Channel) : hist ch t = shiftIn ch (acceptedSamples k s) (hist ch s) := by
  induction k generalizing s with
  | zero => cases hrun; rfl
  | succ k ih =>
    obtain ⟨u, hu, hrest⟩ := runSteps_succ_next hrun
    obtain ⟨hrst, hno'⟩ := noReset_succ hu hno
    obtain ⟨-, hsample, hkeep⟩ := historiesChangeOnlyBySampling s u hu
    rw [ih hrest hno', acceptedSamples_succ hu]
    cases hsampled : u.rSampled with
    | false => simp [hkeep hrst hsampled]
    | true =>
      obtain ⟨-, hshift⟩ := hsample hrst hsampled
      simp [shiftIn, hshift, pinRead_eq_pin]

/-- Settles O46: the run's accepted samples are shifted in (`hist_runSteps`), and the bits of the shifted
history are its samples (`getLsbD_shiftIn`). -/
theorem historiesHoldTheLastEightAcceptedSamples : Obligations.HistoriesHoldTheLastEightAcceptedSamples := by
  intro k s t hrun hno j hj
  have bit (ch : Channel) :
      (hist ch t).getLsbD (7 - j) =
        ((acceptedSamples k s)[j]?.map (Inputs.pin ch)).getD
          ((hist ch s).getLsbD (7 - j + (acceptedSamples k s).length)) := by
    rw [hist_runSteps hrun hno ch, getLsbD_shiftIn ch _ _ hj]
  exact ⟨bit .A, bit .B, bit .C⟩

end Sys2Proof.Machine
end

section
/-! SUPPORT and proofs. The order and the side effects of commands (spec 20_memory.md R45, R49): what an accepted
READ writes and where that write reproduces the old value, and what a step that is no READ does to the latch. -/

namespace Sys2Proof.Machine

/-! ### An accepted READ -/

/-- The only two fixed points of a shift (R74): all eight samples already agree with the new one. -/
theorem shift_eq_self_iff (h : Byte) (sample : Bool) :
    shift h sample = h ↔ (h = 0x00 ∧ sample = false) ∨ (h = 0xFF ∧ sample = true) := by
  revert h sample
  decide

/-- READ is the rate-limited decoder, then the latch, then the response (R102). -/
theorem exec_read_eq (s : State) :
    exec .read s =
      .next (respondResult (timedDecode s).1 (latchResult (timedDecode s).1 (timedDecode s).2)) := rfl

/-- Only the open path of the gate reloads the stored time (R91, R94). -/
theorem nextEligibleTime_timedDecode (s : State) :
    (timedDecode s).2.nextEligibleTime =
      if (timedDecode s).1.sampled = true then s.port.now + s.interval else s.nextEligibleTime := by
  cases he : eligible s.port.now s.nextEligibleTime with
  | false => simp [timedDecode_gated s he]
  | true => simp [timedDecode_open s he]

/-- What a READ that sampled writes besides the latch and the response (R94). -/
theorem sampling_of_exec_read {s t : State} (h : exec .read s = .next t) (hsampled : t.rSampled = true) :
    (∀ ch, hist ch t = shift (hist ch s) (pinRead ch s)) ∧ t.nextEligibleTime = s.port.now + s.interval := by
  rw [exec_read_eq] at h
  cases h
  simp only [respondResult_rSampled] at hsampled
  simp [hist_timedDecode, nextEligibleTime_timedDecode, hsampled, pinRead_eq_pin]

/-- Settles O35: each history takes one shift, whose fixed points are known, and the stored time is reloaded. -/
theorem acceptedReadIsNotIdempotent : Obligations.AcceptedReadIsNotIdempotent := by
  intro s t h hsampled
  obtain ⟨hhist, htime⟩ := sampling_of_exec_read h hsampled
  refine ⟨fun ch => ?_, ?_⟩
  · rw [hhist ch]
    exact shift_eq_self_iff (hist ch s) (pinRead ch s)
  · rw [htime]

/-! ### The latch between two READ steps -/

/-- A step that is no READ leaves the latch outputs as they were, unless it is a reset or a FLUSH, which clear
them (R101, R104, R140). -/
theorem latch_of_step_not_read {s t : State} (h : step s = .next t) (hread : t.port.isRead = false) :
    incrementO t = (if t.port.rst || t.port.isFlush then 0 else incrementO s) ∧
    clickedO t = (if t.port.rst || t.port.isFlush then false else clickedO s) := by
  obtain ⟨-, -, hscript⟩ := step_keeps_parameters_and_takes_inputs h
  obtain ⟨-, inp, rest, hs, hcase⟩ := step_next_cases h
  have hport : t.port = inp := (List.cons.inj (hscript.symm.trans hs)).1
  rw [hport] at hread ⊢
  rcases hcase with ⟨hrst, rfl⟩ | ⟨hrst, hcmd, rfl⟩ | ⟨hrst, hcmd, -⟩ | ⟨hrst, hcmd, rfl⟩
  case inr.inr.inl => simp [Inputs.isRead, hrst, hcmd] at hread
  case inl => simp [incrementO, clickedO, hrst]
  case inr.inl | inr.inr.inr => simp [incrementO, clickedO, Inputs.isFlush, hrst, hcmd]

/-- A latch that shows nothing shows nothing until a later READ (R49). -/
theorem latch_clear_of_runSteps_not_read {k : Nat} {s t : State} (hrun : runSteps k s = .next t)
    (hno : (s.script.take k).all (fun inp => !inp.isRead) = true)
    (hs : incrementO s = 0 ∧ clickedO s = false) : incrementO t = 0 ∧ clickedO t = false := by
  induction k generalizing s with
  | zero => cases hrun; exact hs
  | succ k ih =>
    obtain ⟨u, hu, hrest⟩ := runSteps_succ_next hrun
    obtain ⟨-, -, hscript⟩ := step_keeps_parameters_and_takes_inputs hu
    obtain ⟨hread, hno'⟩ : u.port.isRead = false ∧ (u.script.take k).all (fun inp => !inp.isRead) = true := by
      simpa [hscript] using hno
    refine ih hrest hno' ?_
    simpa [hs] using latch_of_step_not_read hu hread

/-- A FLUSH step is no READ step: their opcodes differ (R58). -/
theorem Inputs.isRead_of_isFlush {inp : Inputs} (h : inp.isFlush = true) : inp.isRead = false := by
  obtain ⟨-, hcmd⟩ : inp.rst = false ∧ inp.cmd = 0b10#2 := by simpa [Inputs.isFlush] using h
  simp [Inputs.isRead, hcmd]

/-- Settles O43: the FLUSH clears the latch, and then induction on the length of the run. -/
theorem latchStaysClearFromFlushToTheNextRead : Obligations.LatchStaysClearFromFlushToTheNextRead := by
  intro k s u t hstep hflush hrun hno
  refine latch_clear_of_runSteps_not_read hrun hno ?_
  simpa [hflush] using latch_of_step_not_read hstep (Inputs.isRead_of_isFlush hflush)

end Sys2Proof.Machine
end

section
/-! SUPPORT and proofs. The command word and the step it makes (spec 30_encoding.md R58, R59): the opcode map
both ways, the step on each kind of script head, and the run that meets a reserved word. -/

namespace Sys2Proof.Machine

/-! ### The opcode map -/

/-- Settles O1: the decoder inverts the encoder (`decode_eq_ok_iff`), and each of the three commands has one
word. -/
theorem decoderFollowsTheOpcodeMap : Obligations.DecoderFollowsTheOpcodeMap := by
  refine ⟨rfl, rfl, rfl, rfl, fun cmd i h => ?_⟩
  have hword : cmd = encode i := ((decode_eq_ok_iff cmd i).1 h).symm
  cases i with
  | nop => exact .inl ⟨hword, rfl⟩
  | read => exact .inr (.inl ⟨hword, rfl⟩)
  | flush => exact .inr (.inr ⟨hword, rfl⟩)

/-- Every word but the reserved one is the word of a command (R58). -/
theorem exists_decode_of_ne_reserved {cmd : CommandWord} (h : cmd ≠ 0b11#2) : ∃ i, decode cmd = .ok i := by
  have hwords : cmd = encode .nop ∨ cmd = encode .read ∨ cmd = encode .flush := by
    revert cmd
    decide
  rcases hwords with rfl | rfl | rfl
  · exact ⟨.nop, rfl⟩
  · exact ⟨.read, rfl⟩
  · exact ⟨.flush, rfl⟩

/-- A step that is not defined carries the reserved word and is no reset (R159). -/
theorem Inputs.isDefined_eq_false_iff (inp : Inputs) :
    inp.isDefined = false ↔ inp.rst = false ∧ inp.cmd = 0b11#2 := by
  simp [Inputs.isDefined]

/-! ### The step on each kind of script head -/

section
variable {s : State} {inp : Inputs} {rest : List Inputs}

/-- A reset step is the reset event, whatever its command word is (R126). -/
theorem step_of_reset (hl : s.interval.toNat < 2 ^ 31) (hs : s.script = inp :: rest) (hrst : inp.rst = true) :
    step s = .next (resetEvent (s.present inp rest)) := by
  have hlegal := (intervalLegal_eq_true_iff s).2 hl
  simp [step, fetch, hlegal, hs, hrst]

/-- A step that is no reset executes the command its word decodes to (R55, R58). -/
theorem step_of_decode {i : Instr} (hl : s.interval.toNat < 2 ^ 31) (hs : s.script = inp :: rest)
    (hrst : inp.rst = false) (hd : decode inp.cmd = .ok i) : step s = exec i (s.present inp rest) := by
  have hlegal := (intervalLegal_eq_true_iff s).2 hl
  simp [step, fetch, hlegal, hs, hrst, hd]

/-- A step that is no reset and whose word the decoder rejects is refused (R59). -/
theorem step_of_decode_error {e : DecodeReject} (hl : s.interval.toNat < 2 ^ 31) (hs : s.script = inp :: rest)
    (hrst : inp.rst = false) (hd : decode inp.cmd = .error e) : step s = .refused .reservedCommand := by
  have hlegal := (intervalLegal_eq_true_iff s).2 hl
  simp [step, fetch, hlegal, hs, hrst, hd]

end

/-- Settles O4: the decoder rejects the word 11. -/
theorem reservedCommandIsRefused : Obligations.ReservedCommandIsRefused := by
  intro s inp rest hl hs hrst hcmd
  have hd : decode inp.cmd = .error .reservedOpcode := by rw [hcmd]; rfl
  exact step_of_decode_error hl hs hrst hd

/-- No command stops: each answers a next state from every state (R120). -/
theorem exists_exec_eq_next (i : Instr) (s : State) : ∃ t, exec i s = .next t := by
  cases i with
  | nop => exact ⟨_, rfl⟩
  | read => exact ⟨_, rfl⟩
  | flush => exact ⟨_, rfl⟩

/-- A defined step has a successor (R120). -/
theorem exists_step_eq_next_of_isDefined {s : State} {inp : Inputs} {rest : List Inputs}
    (hl : s.interval.toNat < 2 ^ 31) (hs : s.script = inp :: rest) (hdef : inp.isDefined = true) :
    ∃ t, step s = .next t := by
  cases hrst : inp.rst with
  | true => exact ⟨_, step_of_reset hl hs hrst⟩
  | false =>
    have hcmd : inp.cmd ≠ 0b11#2 := by simpa [Inputs.isDefined, hrst] using hdef
    obtain ⟨i, hd⟩ := exists_decode_of_ne_reserved hcmd
    rw [step_of_decode hl hs hrst hd]
    exact exists_exec_eq_next i (s.present inp rest)

/-! ### The run that meets a reserved word -/

/-- Settles O41, by induction on the script: a defined head is a step after which the reserved word still lies
ahead, and a head that is not defined is refused. -/
theorem runWithAReservedWordHasNoEndState : Obligations.RunWithAReservedWordHasNoEndState := by
  intro s hl hsome
  induction hs : s.script generalizing s with
  | nil => simp [hs] at hsome
  | cons inp rest ih =>
    cases hdef : inp.isDefined with
    | true =>
      obtain ⟨t, ht⟩ := exists_step_eq_next_of_isDefined hl hs hdef
      obtain ⟨hinterval, -, htake⟩ := step_keeps_parameters_and_takes_inputs ht
      have hrest : t.script = rest := (List.cons.inj (htake.symm.trans hs)).2
      have hlater : t.script.all Inputs.isDefined = false := by simpa [hs, hdef, hrest] using hsome
      have hrun := ih t (hinterval ▸ hl) hlater hrest
      simpa [runSteps, ht] using hrun
    | false =>
      obtain ⟨hrst, hcmd⟩ := (Inputs.isDefined_eq_false_iff inp).1 hdef
      simp [runSteps, reservedCommandIsRefused s inp rest hl hs hrst hcmd]

end Sys2Proof.Machine
end

section
/-! SUPPORT and proofs. What the commands read and answer (spec 30_encoding.md R57, R62): NOP and FLUSH read no
input and respond with zeros; the response of READ is what the rate-limited decoder returned. -/

namespace Sys2Proof.Machine

/-- Settles O30: neither clearing the response nor clearing the latch reads the port. -/
theorem nopAndFlushIgnoreTheInputs : Obligations.NopAndFlushIgnoreTheInputs := by
  intro i s p hi
  cases i with
  | nop => rfl
  | read => exact absurd rfl hi
  | flush => rfl

/-- `r_increment` takes one of the three codes of an increment (R62). -/
theorem incCode_value (inc : Inc3) : incCode inc = 0b00 ∨ incCode inc = 0b01 ∨ incCode inc = 0b11 := by
  cases inc <;> decide

/-- The decoder samples exactly when the gate is open (R94). -/
theorem sampled_timedDecode (s : State) : (timedDecode s).1.sampled = eligible s.port.now s.nextEligibleTime := by
  cases he : eligible s.port.now s.nextEligibleTime with
  | false => rw [timedDecode_gated s he]
  | true => rw [timedDecode_open s he]

/-- Settles O31: READ puts the decoder's result on the response outputs, the other commands put zeros there. -/
theorem responseCarriesTheDecodeResult : Obligations.ResponseCarriesTheDecodeResult := by
  refine ⟨fun s t h => ?_, fun i s t hi h => ?_⟩
  · rw [exec_read_eq] at h
    cases h
    refine ⟨incCode_value _, signExtend_incCode _, rfl, ?_⟩
    rw [respondResult_rSampled, sampled_timedDecode]
  · cases i with
    | nop => cases h; exact ⟨rfl, rfl, rfl⟩
    | read => exact absurd rfl hi
    | flush => cases h; exact ⟨rfl, rfl, rfl⟩

end Sys2Proof.Machine
end

section
/-! SUPPORT and proofs. The invariant of the block (spec 10_state.md R25; 43_event_latch.md R102): a step that
returns no response keeps it because it keeps or clears the latch; a READ step keeps it because its latch and
its response come from one Decode Result. -/

namespace Sys2Proof.Machine

/-! ### The latch takes what it is handed -/

/-- Write-if-unset keeps the field at one of the three values of an increment (R25). -/
theorem latchIncrement_value {old : Byte} (hold : old = 0xFF ∨ old = 0x00 ∨ old = 0x01) (inc : Inc3) :
    latchIncrement old inc = 0xFF ∨ latchIncrement old inc = 0x00 ∨ latchIncrement old inc = 0x01 := by
  by_cases hzero : old = 0
  · subst hzero
    rw [latchIncrement_zero]
    cases inc <;> decide
  · rw [latchIncrement_of_ne_zero hzero]
    exact hold

/-- The field is zero after a write-if-unset only if it was and nothing was handed to it (R102). -/
theorem latchIncrement_eq_zero_iff (old : Byte) (inc : Inc3) :
    latchIncrement old inc = 0 ↔ old = 0 ∧ inc = .zero := by
  by_cases hzero : old = 0
  · subst hzero
    simp only [latchIncrement_zero, incToI8_eq_zero_iff, true_and]
  · simp only [latchIncrement_of_ne_zero hzero, hzero, false_and]

/-! ### What the rate-limited decoder returns -/

/-- The decoder does not touch the latch (R94). -/
theorem pendingIncrement_timedDecode (s : State) : (timedDecode s).2.pendingIncrement = s.pendingIncrement := by
  cases he : eligible s.port.now s.nextEligibleTime with
  | false => rw [timedDecode_gated s he]
  | true => rw [timedDecode_open s he]

/-- A gated decoder returns no increment (R94). -/
theorem inc_timedDecode_of_not_sampled {s : State} (h : (timedDecode s).1.sampled = false) :
    (timedDecode s).1.inc = .zero := by
  rw [sampled_timedDecode] at h
  rw [timedDecode_gated s h]

/-- An accepted sample is decoded from the histories it leaves behind (R84). -/
theorem result_timedDecode_of_sampled {s : State} (h : (timedDecode s).1.sampled = true) :
    (timedDecode s).1.inc = qdec (timedDecode s).2.histA (timedDecode s).2.histB ∧
    (timedDecode s).1.click = raised (timedDecode s).2.histC := by
  rw [sampled_timedDecode] at h
  rw [timedDecode_open s h]
  exact ⟨rfl, rfl⟩

/-! ### The invariant -/

/-- After a step without a response the invariant speaks of the latched increment alone. -/
theorem inv_respondNothing {s : State}
    (hvalue : s.pendingIncrement = 0xFF ∨ s.pendingIncrement = 0x00 ∨ s.pendingIncrement = 0x01) :
    Inv s.respondNothing where
  increment_value := hvalue
  code_never_ten := by simp
  increment_latched := by simp
  click_latched := by simp
  gated_no_increment := by simp
  sampled_time := by simp
  sampled_increment := by simp
  sampled_click := by simp

/-- The reset event responds with nothing, so it is a case of `inv_respondNothing`. -/
theorem inv_resetEvent (s : State) : Inv (resetEvent s) :=
  inv_respondNothing (s := resetEvent s) (.inr (.inl rfl))

/-- READ makes every clause of the invariant true but the range of the latched increment, which it keeps. -/
theorem inv_of_exec_read {s t : State} (h : exec .read s = .next t)
    (hvalue : s.pendingIncrement = 0xFF ∨ s.pendingIncrement = 0x00 ∨ s.pendingIncrement = 0x01) : Inv t := by
  obtain ⟨hinterval, -, hport, -⟩ := timedDecode_frame s
  rw [exec_read_eq] at h
  cases h
  exact {
    increment_value := by
      simpa [pendingIncrement_timedDecode] using latchIncrement_value hvalue (timedDecode s).1.inc
    code_never_ten := by
      rcases incCode_value (timedDecode s).1.inc with hcode | hcode | hcode <;> simp [hcode]
    increment_latched := fun hcode hzero =>
      hcode ((incCode_eq_zero_iff _).2 ((latchIncrement_eq_zero_iff _ _).1 hzero).2)
    click_latched := by
      simp +contextual [latchClick_eq_or]
    gated_no_increment := fun hgated => by
      rw [respondResult_rIncrement, inc_timedDecode_of_not_sampled hgated]
      rfl
    sampled_time := fun hsampled => by
      simp only [respondResult_rSampled] at hsampled
      simp [nextEligibleTime_timedDecode, hsampled, hport, hinterval]
    sampled_increment := fun hsampled => by
      simp [(result_timedDecode_of_sampled hsampled).1]
    sampled_click := fun hsampled => by
      simp [(result_timedDecode_of_sampled hsampled).2] }

/-- Settles O38: one case per kind of step; only the range of the latched increment is needed from before. -/
theorem everyStepKeepsTheInvariant : Obligations.EveryStepKeepsTheInvariant := by
  intro s t hinv h
  have hvalue := hinv.increment_value
  obtain ⟨-, inp, rest, -, hcase⟩ := step_next_cases h
  rcases hcase with ⟨-, rfl⟩ | ⟨-, -, rfl⟩ | ⟨-, -, r, s', hd, rfl⟩ | ⟨-, -, rfl⟩
  · exact inv_resetEvent (s.present inp rest)
  · exact inv_respondNothing hvalue
  · have hread : exec .read (s.present inp rest) = .next (respondResult r (latchResult r s')) := by
      rw [exec_read_eq, hd]
    exact inv_of_exec_read hread hvalue
  · exact inv_respondNothing (.inr (.inl rfl))

end Sys2Proof.Machine
end

section
/-! SUPPORT and proofs. The debounced channel (spec 40_channel.md R73 to R76): the shift in bits and in value,
what one advance writes and why two advances commute, and the accessors, which read `hist_c` and so move only
where it does. -/

namespace Sys2Proof.Machine

/-! ### The shift -/

/-- The new sample weighs 128 and every older one half of what it did (R74). -/
theorem toNat_shift (h : Byte) (sample : Bool) :
    (shift h sample).toNat = sample.toNat * 128 + h.toNat / 2 := by
  have hlow : h.toNat / 2 < 2 ^ 7 := by have := h.isLt; omega
  cases sample with
  | false => simp [shift, Nat.shiftRight_eq_div_pow]
  | true =>
    calc (shift h true).toNat
        = 2 ^ 7 * 1 ||| h.toNat / 2 := by simp [shift, Nat.shiftRight_eq_div_pow]
      _ = 2 ^ 7 * 1 + h.toNat / 2 := (Nat.two_pow_add_eq_or_of_lt hlow 1).symm
      _ = true.toNat * 128 + h.toNat / 2 := rfl

/-- A high sample makes the clean-edge pattern over seven low ones; the sample it pushes out may be high
(R74). -/
theorem shift_true_eq_clean_edge_iff (h : Byte) : shift h true = 0x80 ↔ h = 0x00 ∨ h = 0x01 := by
  simp only [← BitVec.toNat_inj, toNat_shift, BitVec.ofNat_eq_ofNat, BitVec.toNat_ofNat, Bool.toNat_true]
  omega

/-- Settles O11: bit by bit (`getLsbD_shift`), in value (`toNat_shift`), and what follows for the fixed points
and the clean edge. -/
theorem shiftPutsTheNewestSampleInBitSeven : Obligations.ShiftPutsTheNewestSampleInBitSeven := by
  intro h sample
  refine ⟨?_, fun i hi => ?_, toNat_shift h sample, shift_eq_self_iff h sample, shift_true_eq_clean_edge_iff h⟩
  · rw [getLsbD_shift, if_pos rfl]
  · rw [getLsbD_shift, if_neg (by omega)]

/-! ### One advance of a channel -/

section
variable (ch other : Channel) (s : State) (h k : Byte)

theorem hist_setHist : hist other (s.setHist ch h) = if other = ch then h else hist other s := by
  cases ch <;> cases other <;> rfl

@[simp] theorem hist_countAdvance : hist ch s.countAdvance = hist ch s := by
  cases ch <;> rfl

@[simp] theorem pinRead_setHist : pinRead other (s.setHist ch h) = pinRead other s := by
  cases ch <;> cases other <;> rfl

@[simp] theorem pinRead_countAdvance : pinRead ch s.countAdvance = pinRead ch s := by
  cases ch <;> rfl

theorem State.setHist_countAdvance : s.countAdvance.setHist ch h = (s.setHist ch h).countAdvance := by
  cases ch <;> rfl

variable {ch other} in
theorem State.setHist_setHist_comm (hne : ch ≠ other) :
    (s.setHist ch h).setHist other k = (s.setHist other k).setHist ch h := by
  revert hne
  cases ch <;> cases other <;> simp [State.setHist]

/-- An advance for any channel: the history shifted, returned and written, and one more counted (R73, R139). -/
theorem chAdvance_eq :
    chAdvance ch s =
      (shift (hist ch s) (pinRead ch s), (s.setHist ch (shift (hist ch s) (pinRead ch s))).countAdvance) := rfl

/-- An advance writes its own channel's history and no other. -/
theorem hist_chAdvance :
    hist other (chAdvance ch s).2 = if other = ch then (chAdvance ch s).1 else hist other s := by
  simp [chAdvance_eq, hist_setHist]

/-- Nothing but the histories and the ghost count tells the state after an advance from the state before. -/
theorem chAdvance_frame :
    { (chAdvance ch s).2 with
      histA := s.histA, histB := s.histB, histC := s.histC, advCount := s.advCount } = s := by
  cases ch <;> rfl

theorem advCount_chAdvance : (chAdvance ch s).2.advCount = s.advCount + 1 := by
  cases ch <;> rfl

end

/-- The three channels stay together: a command advances all of them or none (R85, R91). -/
theorem hist_of_exec {i : Instr} {s t : State} (h : exec i s = .next t) :
    (∀ ch, hist ch t = hist ch s) ∨ (∀ ch, hist ch t = (chAdvance ch s).1) := by
  cases i with
  | nop => cases h; exact .inl fun ch => hist_respondNothing ch s
  | read =>
    rw [exec_read_eq] at h
    cases h
    cases hsampled : (timedDecode s).1.sampled with
    | false => left; simp [hist_timedDecode, hsampled]
    | true => right; simp [hist_timedDecode, hsampled, chAdvance_eq, pinRead_eq_pin]
  | flush => cases h; left; simp

/-- Settles O12: an advance writes one history (`hist_chAdvance`), and only READ advances, all three channels at
once (`hist_of_exec`). -/
theorem channelAdvanceTakesOneSample : Obligations.ChannelAdvanceTakesOneSample := by
  refine ⟨fun i s t h => hist_of_exec h, fun ch s => ⟨rfl, ?_, fun other hne => ?_, ?_, ?_⟩⟩
  · rw [hist_chAdvance, if_pos rfl]
  · rw [hist_chAdvance, if_neg hne]
  · exact chAdvance_frame ch s
  · exact advCount_chAdvance ch s

/-- Settles O13: an advance reads no other channel's history, and writes to two histories commute. -/
theorem channelOrderIsUnobservable : Obligations.ChannelOrderIsUnobservable := by
  intro x y s hne
  constructor
  · simp [chAdvance_eq, hist_setHist, hne, hne.symm, State.setHist_countAdvance, State.setHist_setHist_comm s _ _ hne]
  · simp [chAdvance_eq, hist_setHist, hne.symm]

/-! ### The accessors of the click channel -/

/-- Both accessors read `hist_c` alone, which a step without a sample and without a reset keeps (R75, R76). -/
theorem histC_of_step_not_sampled {s t : State} (h : step s = .next t) (hrst : t.port.rst = false)
    (hsampled : t.rSampled = false) : t.histC = s.histC := by
  obtain ⟨-, -, hkeep⟩ := historiesChangeOnlyBySampling s t h
  exact hkeep hrst hsampled .C

/-- Settles O14: the level is read from `hist_c`, which such a step keeps. -/
theorem levelMovesOnlyAtAcceptedSamples : Obligations.LevelMovesOnlyAtAcceptedSamples :=
  ⟨fun _ => rfl, fun _ => rfl, fun _ _ => BitVec.getLsbD_zero,
    fun _ _ h hrst hsampled => congrArg level (histC_of_step_not_sampled h hrst hsampled)⟩

/-- The clean-edge pattern is bit 7 alone. -/
theorem getLsbD_clean_edge (i : Nat) : (0x80 : Byte).getLsbD i = decide (7 = i) := by
  have hpow : (0x80 : Byte) = BitVec.twoPow 8 7 := rfl
  simp [hpow, BitVec.getLsbD_twoPow]

/-- A shift makes a clean edge exactly from a high sample over seven low ones (R76). -/
theorem raised_shift_iff (h : Byte) (sample : Bool) :
    raised (shift h sample) = true ↔ sample = true ∧ ∀ i, 1 ≤ i → i < 8 → h.getLsbD i = false := by
  rw [raised_eq_true_iff]
  constructor
  · intro hedge
    have bit (i : Nat) : (if i = 7 then sample else h.getLsbD (i + 1)) = decide (7 = i) := by
      rw [← getLsbD_shift, hedge, getLsbD_clean_edge]
    refine ⟨by simpa using bit 7, fun i hlo hhi => ?_⟩
    obtain ⟨j, rfl⟩ := Nat.exists_eq_add_of_le' hlo
    have hj : j ≠ 7 := by omega
    simpa [hj, hj.symm] using bit j
  · rintro ⟨rfl, hlow⟩
    refine BitVec.eq_of_getLsbD_eq fun i hi => ?_
    rw [getLsbD_shift, getLsbD_clean_edge]
    by_cases htop : i = 7
    · simp [htop]
    · rw [if_neg htop, hlow (i + 1) (by omega) (by omega), decide_eq_false (Ne.symm htop)]

/-- The sample after a clean edge ends it, whatever it is (R76). -/
theorem shift_clean_edge (sample : Bool) : shift 0x80 sample = if sample then 0xC0 else 0x40 := by
  cases sample <;> rfl

/-- Settles O15: the pattern, the shift that makes it, the shift that ends it, and the steps that keep it. -/
theorem raisedIsTheCleanEdgePattern : Obligations.RaisedIsTheCleanEdgePattern := by
  refine ⟨raised_eq_true_iff, raised_shift_iff, fun h sample hraised => ?_, fun s t h hrst hsampled => ?_⟩
  · obtain rfl := (raised_eq_true_iff h).1 hraised
    rw [shift_clean_edge]
    cases sample <;> exact ⟨rfl, rfl⟩
  · exact congrArg raised (histC_of_step_not_sampled h hrst hsampled)

end Sys2Proof.Machine
end

section
/-! SUPPORT and proofs. The quadrature decoder (spec 41_quadrature_decoder.md R82 to R87, R152): when the decoding
function reports a detent, in samples and in numbers; what one decoder call does; and how many accepted samples
lie between two detents, because a clean edge moves down its history one place per sample. -/

namespace Sys2Proof.Machine

/-! ### The two tests of the decoding function -/

/-- The clean edge in the document's words: the newest sample is high and the seven older ones are low. -/
theorem eq_clean_edge_iff (h : Byte) : h = 0x80 ↔ h.getLsbD 7 = true ∧ ∀ i, i < 7 → h.getLsbD i = false := by
  revert h
  decide

/-- The other channel's test as a bound: only its low nibble may be non-zero (R83 (c)). -/
theorem high_nibble_eq_zero_iff_lt (h : Byte) : h &&& 0xF0 = 0 ↔ h.toNat < 16 := by
  revert h
  decide

/-- The other channel's test in samples: its four newest are low. -/
theorem high_nibble_eq_zero_iff (h : Byte) : h &&& 0xF0 = 0 ↔ ∀ i, 4 ≤ i → i < 8 → h.getLsbD i = false := by
  revert h
  decide

/-- A clean edge's newest sample is high, so no history passes both tests (R83 (a)). -/
theorem clean_edge_high_nibble_ne_zero : (0x80 : Byte) &&& 0xF0 ≠ 0 := by decide

/-- No event is the absence of both detents. -/
theorem qdec_zero_iff (a b : Byte) : qdec a b = .zero ↔ qdec a b ≠ .plusOne ∧ qdec a b ≠ .minusOne := by
  cases qdec a b <;> simp

/-- Settles O17: the decoding function's two conditions (`qdec_plusOne_iff`, `qdec_minusOne_iff`), read in
samples. -/
theorem qdecReportsCleanLeadingEdges : Obligations.QdecReportsCleanLeadingEdges := by
  intro a b
  refine ⟨?_, ?_, qdec_zero_iff a b⟩
  · rw [qdec_plusOne_iff, eq_clean_edge_iff, high_nibble_eq_zero_iff]
  · rw [qdec_minusOne_iff, eq_clean_edge_iff, high_nibble_eq_zero_iff]

/-! ### The number of pairs for each increment -/

/-- In how many pairs of a history of A from `as` and one of B from `bs` the decoding function answers `inc`. -/
def pairCount (as bs : List Nat) (inc : Inc3) : Nat :=
  (as.map fun a => bs.countP fun b => qdec (BitVec.ofNat 8 a) (BitVec.ofNat 8 b) = inc).sum

/-- Two independent tests pass on as many pairs as the product of what each passes on. -/
theorem sum_map_countP_and (p q : Nat → Bool) (l m : List Nat) :
    (l.map fun a => m.countP fun b => p a && q b).sum = l.countP p * m.countP q := by
  induction l with
  | nil => simp
  | cons x l ih => cases hx : p x <;> simp [hx, ih, Nat.succ_mul, Nat.add_comm]

/-- Every increment is one of three. -/
theorem countP_increments (f : Nat → Inc3) (l : List Nat) :
    (l.countP fun x => f x = .plusOne) + (l.countP fun x => f x = .minusOne) + (l.countP fun x => f x = .zero) =
      l.length := by
  induction l with
  | nil => rfl
  | cons x l ih =>
    cases hx : f x <;> simp [hx] <;> omega

/-- One byte is the clean edge. -/
theorem countP_clean_edge : ((List.range 256).countP fun h => BitVec.ofNat 8 h = (0x80 : Byte)) = 1 := by
  decide +kernel

/-- Sixteen bytes have a zero high nibble. -/
theorem countP_high_nibble_eq_zero :
    ((List.range 256).countP fun h => BitVec.ofNat 8 h &&& (0xF0 : Byte) = 0) = 16 := by
  decide +kernel

/-- The clean edge of A against the sixteen histories of B that have not begun to rise. -/
theorem pairCount_plusOne : pairCount (List.range 256) (List.range 256) .plusOne = 16 := by
  simp only [pairCount, qdec_plusOne_iff, Bool.decide_and]
  rw [sum_map_countP_and, countP_clean_edge, countP_high_nibble_eq_zero]

/-- The mirror case. -/
theorem pairCount_minusOne : pairCount (List.range 256) (List.range 256) .minusOne = 16 := by
  simp only [pairCount, qdec_minusOne_iff, Bool.decide_and, Bool.and_comm (decide (BitVec.ofNat 8 _ = 0x80))]
  rw [sum_map_countP_and, countP_clean_edge, countP_high_nibble_eq_zero]

/-- Every pair has one of the three answers. -/
theorem pairCount_total (as bs : List Nat) :
    pairCount as bs .plusOne + pairCount as bs .minusOne + pairCount as bs .zero = as.length * bs.length := by
  simp only [pairCount, ← List.sum_map_add, countP_increments, List.map_const', List.sum_replicate_nat]

/-- All the other pairs. The numbers are compared as variables, so that no proof term evaluates a count. -/
theorem pairCount_zero : pairCount (List.range 256) (List.range 256) .zero = 65504 := by
  have hrest (p m z : Nat) (hp : p = 16) (hm : m = 16) (htotal : p + m + z = 256 * 256) : z = 65504 := by omega
  have htotal := pairCount_total (List.range 256) (List.range 256)
  rw [List.length_range] at htotal
  exact hrest _ _ _ pairCount_plusOne pairCount_minusOne htotal

/-- Settles O18: no history passes both of the decoding function's tests, the low test is the bound 16, and the
pairs are counted by independence of the two tests. -/
theorem qdecCornerCases : Obligations.QdecCornerCases := by
  refine ⟨?_, rfl, fun b hb => ?_, fun a b ha hb => ?_, fun b hb => ?_, pairCount_plusOne, pairCount_minusOne,
    pairCount_zero, rfl, rfl, rfl⟩
  · rintro a b ⟨⟨rfl, -⟩, -, hlow⟩
    exact clean_edge_high_nibble_ne_zero hlow
  · rw [qdec_plusOne_iff, qdec_minusOne_iff, high_nibble_eq_zero_iff_lt]
    exact ⟨⟨rfl, hb⟩, rfl, hb⟩
  · rw [qdec_zero_iff, ne_eq, ne_eq, qdec_plusOne_iff, qdec_minusOne_iff]
    exact ⟨fun h => ha h.1, fun h => hb h.1⟩
  · have hrisen : ¬ b &&& 0xF0 = 0 := fun h => absurd ((high_nibble_eq_zero_iff_lt b).1 h) (by omega)
    simp only [qdec_zero_iff, ne_eq, qdec_plusOne_iff, qdec_minusOne_iff, hrisen, clean_edge_high_nibble_ne_zero,
      and_false, not_false_eq_true, and_self]

/-! ### One decoder call -/

/-- Every channel takes one sample of its own pin on every call, whatever the pins show (R84). -/
theorem hist_decodeCall (ch : Channel) (s : State) :
    hist ch (decodeCall s).2 = shift (hist ch s) (pinRead ch s) := by
  cases ch <;> rfl

/-- Settles O19: every clause is read off the record that `decodeCall_eq` writes out, in which the increment
mentions A and B alone and the click C alone. -/
theorem decodeCallAdvancesAllThreeChannels : Obligations.DecodeCallAdvancesAllThreeChannels := by
  intro s
  refine ⟨fun ch => hist_decodeCall ch s, ?_⟩
  simp only [decodeCall_eq, implies_true, and_self]

/-! ### Detents and samples along a run -/

/-- The ghost count of the rate-limited decoder: three advances when it samples (R139). -/
theorem advCount_timedDecode (s : State) :
    (timedDecode s).2.advCount = s.advCount + 3 * (timedDecode s).1.sampled.toNat := by
  cases he : eligible s.port.now s.nextEligibleTime with
  | false => simp [timedDecode_gated s he]
  | true => simp [timedDecode_open s he]

/-- A step that is no reset counts three advances when it samples and none otherwise (R139). -/
theorem advCount_of_step {s t : State} (h : step s = .next t) (hrst : t.port.rst = false) :
    t.advCount = s.advCount + 3 * t.rSampled.toNat := by
  obtain ⟨-, inp, rest, -, hcase⟩ := step_next_cases h
  rcases hcase with ⟨hr, rfl⟩ | ⟨-, -, rfl⟩ | ⟨-, -, r, s', hd, rfl⟩ | ⟨-, -, rfl⟩
  case inl => simp [hr] at hrst
  case inr.inl | inr.inr.inr => simp
  case inr.inr.inl => simpa [hd] using advCount_timedDecode (s.present inp rest)

/-- Three advances per accepted sample along a run without a reset (R139). -/
theorem advCount_runSteps {k : Nat} {s t : State} (hrun : runSteps k s = .next t) (hno : noReset k s = true) :
    t.advCount = s.advCount + 3 * (acceptedSamples k s).length := by
  induction k generalizing s with
  | zero => cases hrun; rfl
  | succ k ih =>
    obtain ⟨u, hu, hrest⟩ := runSteps_succ_next hrun
    obtain ⟨hrst, hno'⟩ := noReset_succ hu hno
    rw [ih hrest hno', advCount_of_step hu hrst, acceptedSamples_succ hu]
    cases u.rSampled with
    | false => simp
    | true => simp; omega

/-- A step returns a non-zero increment only by an accepted sample, decoded from the histories it leaves (R84). -/
theorem sampled_of_increment {s t : State} (h : step s = .next t) (hinc : t.rIncrement ≠ 0) :
    t.port.rst = false ∧ t.rSampled = true ∧ t.rIncrement = incCode (qdec t.histA t.histB) := by
  obtain ⟨-, inp, rest, -, hcase⟩ := step_next_cases h
  rcases hcase with ⟨-, rfl⟩ | ⟨-, -, rfl⟩ | ⟨hrst, -, r, s', hd, rfl⟩ | ⟨-, -, rfl⟩
  case inl | inr.inl | inr.inr.inr => exact absurd rfl hinc
  case inr.inr.inl =>
    obtain ⟨-, -, hport, -⟩ := timedDecode_frame (s.present inp rest)
    have hgated := inc_timedDecode_of_not_sampled (s := s.present inp rest)
    have hresult := result_timedDecode_of_sampled (s := s.present inp rest)
    simp only [hd] at hport hgated hresult
    cases hsampled : r.sampled with
    | false => exact absurd ((incCode_eq_zero_iff _).2 (hgated hsampled)) hinc
    | true => simp [hport, hrst, hsampled, (hresult hsampled).1]

/-- A detent returned is a clean edge of one encoder channel over four low samples of the other (R82). -/
theorem clean_edge_of_increment {s t : State} (h : step s = .next t) (hinc : t.rIncrement ≠ 0) :
    (t.rIncrement = 0b01 ∧ hist .A t = 0x80 ∧ hist .B t &&& 0xF0 = 0) ∨
    (t.rIncrement = 0b11 ∧ hist .B t = 0x80 ∧ hist .A t &&& 0xF0 = 0) := by
  obtain ⟨-, -, hcode⟩ := sampled_of_increment h hinc
  rw [hcode] at hinc ⊢
  cases hq : qdec t.histA t.histB with
  | zero => exact absurd ((incCode_eq_zero_iff _).2 hq) hinc
  | plusOne => exact .inl ⟨rfl, (qdec_plusOne_iff _ _).1 hq⟩
  | minusOne => exact .inr ⟨rfl, (qdec_minusOne_iff _ _).1 hq⟩

section
variable {ch : Channel} {samples : List Inputs}

variable (ch samples) in
/-- A clean edge has moved down one place per sample shifted in. -/
theorem getLsbD_shiftIn_clean_edge (hlen : samples.length < 8) :
    (shiftIn ch samples 0x80).getLsbD (7 - samples.length) = true := by
  rw [getLsbD_shiftIn ch samples _ hlen, List.getElem?_eq_none (Nat.le_refl _), Nat.sub_add_cancel (by omega)]
  rfl

/-- A clean edge of the same channel needs the earlier one to have left the history (R87). -/
theorem eight_le_of_clean_edge (hne : samples ≠ []) (hedge : shiftIn ch samples 0x80 = 0x80) :
    8 ≤ samples.length := by
  by_contra hlt
  have hpos := List.length_pos_of_ne_nil hne
  have hhigh := getLsbD_shiftIn_clean_edge ch samples (by omega)
  rw [hedge, getLsbD_clean_edge] at hhigh
  have hplace : 7 = 7 - samples.length := of_decide_eq_true hhigh
  omega

/-- Four low newest samples need the earlier edge to have left the high nibble (R152). -/
theorem four_le_of_high_nibble_eq_zero (hlow : shiftIn ch samples 0x80 &&& 0xF0 = 0) : 4 ≤ samples.length := by
  by_contra hlt
  have hhigh := getLsbD_shiftIn_clean_edge ch samples (by omega)
  rw [(high_nibble_eq_zero_iff _).1 hlow _ (by omega) (by omega)] at hhigh
  cases hhigh

end

/-- From any state of a run without a reset to a later detent: the accepted samples on the way, the detent's own
among them, make up the histories and the ghost count. -/
theorem samples_until_increment {k : Nat} {s u t : State} (hrun : runSteps k s = .next u)
    (hno : noReset k s = true) (h : step u = .next t) (hinc : t.rIncrement ≠ 0) :
    ∃ samples, samples ≠ [] ∧ t.advCount = s.advCount + 3 * samples.length ∧
      ∀ ch, hist ch t = shiftIn ch samples (hist ch s) := by
  obtain ⟨hrst, hsampled, -⟩ := sampled_of_increment h hinc
  obtain ⟨-, hsample, -⟩ := historiesChangeOnlyBySampling u t h
  obtain ⟨-, hshift⟩ := hsample hrst hsampled
  refine ⟨t.port :: acceptedSamples k s, List.cons_ne_nil _ _, ?_, fun ch => ?_⟩
  · calc t.advCount
        = u.advCount + 3 := by rw [advCount_of_step h hrst, hsampled]; rfl
      _ = s.advCount + 3 * (acceptedSamples k s).length + 3 := by rw [advCount_runSteps hrun hno]
  · calc hist ch t
        = shift (hist ch u) (t.port.pin ch) := by rw [hshift ch, pinRead_eq_pin]
      _ = shift (shiftIn ch (acceptedSamples k s) (hist ch s)) (t.port.pin ch) := by rw [hist_runSteps hrun hno ch]

/-- Settles O49: a second detent of the same direction needs a clean edge where the first one's was, one of the
other direction needs four low samples there; the samples between move the first edge out of the way. -/
theorem emittedDetentsAreSpacedBySamples : Obligations.EmittedDetentsAreSpacedBySamples := by
  intro k s0 s1 s2 s3 h1 hinc1 hrun hno h3 hinc3
  obtain ⟨samples, hne, hcount, hhist⟩ := samples_until_increment hrun hno h3 hinc3
  have eight {ch : Channel} (hedge1 : hist ch s1 = 0x80) (hedge3 : hist ch s3 = 0x80) : 8 ≤ samples.length := by
    rw [hhist ch, hedge1] at hedge3
    exact eight_le_of_clean_edge hne hedge3
  have four {ch : Channel} (hedge1 : hist ch s1 = 0x80) (hlow3 : hist ch s3 &&& 0xF0 = 0) : 4 ≤ samples.length := by
    rw [hhist ch, hedge1] at hlow3
    exact four_le_of_high_nibble_eq_zero hlow3
  have hspaced : 4 ≤ samples.length ∧ (s3.rIncrement = s1.rIncrement → 8 ≤ samples.length) := by
    rcases clean_edge_of_increment h1 hinc1 with ⟨hcode1, hedge1, -⟩ | ⟨hcode1, hedge1, -⟩ <;>
      rcases clean_edge_of_increment h3 hinc3 with ⟨hcode3, hedge3, hlow3⟩ | ⟨hcode3, hedge3, hlow3⟩
    case inl.inl | inr.inr =>
      have hlen := eight hedge1 hedge3
      exact ⟨by omega, fun _ => hlen⟩
    case inl.inr | inr.inl => exact ⟨four hedge1 hlow3, by simp [hcode1, hcode3]⟩
  obtain ⟨hfour, height⟩ := hspaced
  refine ⟨by omega, fun hsame => ?_⟩
  have hlen := height hsame
  omega

end Sys2Proof.Machine
end

section
/-! SUPPORT and proofs. The rate limiter (spec 42_rate_limiter.md R91 to R96, R153): the eligibility test on the
wrapping clock, READ written out on both paths of the gate, and what a step can do in terms of its own port. -/

namespace Sys2Proof.Machine

/-! ### The eligibility test -/

/-- Settles O21: subtraction of bit vectors is subtraction modulo 2^32. -/
theorem eligibleComparesTheWrappedDifference : Obligations.EligibleComparesTheWrappedDifference := by
  intro now net
  rw [eligible_eq_true_iff, BitVec.toNat_sub]
  have hnet := net.isLt
  omega

/-- The test measures the time since the stored time (R93 (e)). -/
theorem eligible_add_iff (net d : Millis) : eligible (net + d) net = true ↔ d.toNat < 2 ^ 31 := by
  rw [eligible_eq_true_iff, add_sub_cancel_left]

/-- Settles O22: the values are evaluated, a window without a wrap is arithmetic on naturals, and the last clause is
`eligible_add_iff`, of which equality is the case of no time passed. -/
theorem eligibleCornerCases : Obligations.EligibleCornerCases := by
  refine ⟨fun t => ?_, by decide, by decide, by decide, by decide, by decide, by decide,
    fun base now net hnow hnow' hnet hnet' => ?_, eligible_add_iff⟩
  · simpa using eligible_add_iff t 0
  · rw [eligibleComparesTheWrappedDifference]
    have hnowBound := now.isLt
    have hnetBound := net.isLt
    omega

/-- With the stored time one legal interval after a clock reading, the gate is open only once the interval has passed
since that reading: before it the wrapped difference lies in the upper half range (R92, R95). -/
theorem interval_le_of_eligible {now later interval : Millis} (hl : interval.toNat < 2 ^ 31)
    (he : eligible later (now + interval) = true) : interval.toNat ≤ (later - now).toNat := by
  rw [eligible_eq_true_iff, ← BitVec.sub_sub, BitVec.toNat_sub] at he
  have hpassed := (later - now).isLt
  omega

/-! ### READ on both paths of the gate -/

/-- The gate is closed from the middle of the range on. -/
theorem eligible_eq_false_iff (now net : Millis) : eligible now net = false ↔ 2 ^ 31 ≤ (now - net).toNat := by
  rw [← Bool.not_eq_true, eligible_eq_true_iff, Nat.not_lt]

/-- Write-if-unset of no event writes nothing (R102). -/
theorem latchIncrement_no_event (old : Byte) : latchIncrement old .zero = old := by
  by_cases hold : old = 0
  · subst hold; rfl
  · exact latchIncrement_of_ne_zero hold .zero

/-- The two values of `GATED_CLICK` in one expression (R96). -/
theorem gatedClickValue_eq (s : State) :
    gatedClickValue s = (decide (s.gatedClick = .accessor) && (s.histC == 0x80)) := by
  cases hg : s.gatedClick <;> simp [gatedClickValue, hg, raised]

/-- Settles O28: READ is the decoder, the latch and the response (`exec_read_eq`), and the decoder has two paths. -/
theorem readCompletesOnBothPathsOfTheGate : Obligations.ReadCompletesOnBothPathsOfTheGate := by
  refine fun s => ⟨fun hopen => ?_, fun hgated => ?_⟩
  · rw [exec_read_eq, timedDecode_open s ((eligible_eq_true_iff _ _).2 hopen)]
    simp [respondResult, latchResult, State.respond, State.setLatch, latchClick_eq_or, latchIncrement, raised]
  · rw [exec_read_eq, timedDecode_gated s ((eligible_eq_false_iff _ _).2 hgated)]
    simp [respondResult, latchResult, State.respond, State.setLatch, latchClick_eq_or, latchIncrement_no_event,
      gatedClickValue_eq, incCode]

/-- Settles O23: the gated READ as O28 writes it out names neither a pin nor a history to change. -/
theorem gatedReadSeesNoPinAndMovesNoChannel : Obligations.GatedReadSeesNoPinAndMovesNoChannel := by
  refine fun s hgated => ⟨?_, fun a b c => ?_⟩
  · exact ⟨_, (readCompletesOnBothPathsOfTheGate s).2 hgated, rfl, rfl, rfl, rfl, rfl⟩
  · rw [(readCompletesOnBothPathsOfTheGate s).2 hgated,
      (readCompletesOnBothPathsOfTheGate { s with port := { s.port with pinA := a, pinB := b, pinC := c } }).2 hgated]
    rfl

/-- Settles O24: an open READ does not look at the parameter, and a gated one hands the latch `hist_c = 0x80` or
nothing, which a held click hides. -/
theorem gatedClickReadingsDifferInOneSituation : Obligations.GatedClickReadingsDifferInOneSituation := by
  refine ⟨fun s => ⟨rfl, rfl⟩, fun s ta tf ha hf => ?_⟩
  rcases Nat.lt_or_ge (s.port.now - s.nextEligibleTime).toNat (2 ^ 31) with hopen | hgated
  · have hread := fun g => (readCompletesOnBothPathsOfTheGate { s with gatedClick := g }).1 hopen
    rw [hread] at ha hf
    cases ha
    cases hf
    have hnot := Nat.not_le.2 hopen
    exact ⟨iff_of_false (fun hne => hne rfl) fun hsituation => hnot hsituation.1,
      iff_of_false (fun hne => hne rfl) fun hsituation => hnot hsituation.1⟩
  · have hread := fun g => (readCompletesOnBothPathsOfTheGate { s with gatedClick := g }).2 hgated
    rw [hread] at ha hf
    cases ha
    cases hf
    simp only [ge_iff_le.1 hgated, true_and]
    cases s.pendingClick <;> simp [elements]

/-! ### One step, by the kind of inputs at its port -/

/-- A READ step is no reset and carries READ's word. -/
theorem Inputs.isRead_iff (inp : Inputs) : inp.isRead = true ↔ inp.rst = false ∧ inp.cmd = 0b01#2 := by
  simp [Inputs.isRead]

/-- A NOP or FLUSH step is no reset and carries one of their two words. -/
theorem Inputs.isIdle_iff (inp : Inputs) :
    inp.isIdle = true ↔ inp.rst = false ∧ (inp.cmd = 0b00#2 ∨ inp.cmd = 0b10#2) := by
  simp [Inputs.isIdle]

/-- A NOP or FLUSH step is no READ step. -/
theorem Inputs.isRead_of_isIdle {inp : Inputs} (h : inp.isIdle = true) : inp.isRead = false := by
  obtain ⟨-, hcmd | hcmd⟩ := inp.isIdle_iff.1 h
  · simp [Inputs.isRead, hcmd]
  · simp [Inputs.isRead, hcmd]

theorem Inputs.isIdle_of_isFlush {inp : Inputs} (h : inp.isFlush = true) : inp.isIdle = true := by
  obtain ⟨hrst, hcmd⟩ : inp.rst = false ∧ inp.cmd = 0b10#2 := by simpa [Inputs.isFlush] using h
  exact inp.isIdle_iff.2 ⟨hrst, .inr hcmd⟩

/-- A step in terms of the port it leaves: the reset event, a READ, or one of the two commands that touch the latch and
the response alone. -/
theorem step_cases_of_port {s t : State} (h : step s = .next t) :
    (t.port.rst = true ∧ t = resetEvent (s.present t.port t.script)) ∨
    (t.port.isRead = true ∧ exec .read (s.present t.port t.script) = .next t) ∨
    (t.port.isIdle = true ∧ (t = (s.present t.port t.script).respondNothing ∨
      t = (clearLatch (s.present t.port t.script)).respondNothing)) := by
  obtain ⟨-, -, hscript⟩ := step_keeps_parameters_and_takes_inputs h
  obtain ⟨-, inp, rest, hs, hcase⟩ := step_next_cases h
  obtain ⟨hport, hrest⟩ := List.cons.inj (hscript.symm.trans hs)
  rw [hport, hrest]
  rcases hcase with ⟨hrst, ht⟩ | ⟨hrst, hcmd, ht⟩ | ⟨hrst, hcmd, r, s', hd, ht⟩ | ⟨hrst, hcmd, ht⟩
  · exact .inl ⟨hrst, ht⟩
  · exact .inr (.inr ⟨inp.isIdle_iff.2 ⟨hrst, .inl hcmd⟩, .inl ht⟩)
  · exact .inr (.inl ⟨inp.isRead_iff.2 ⟨hrst, hcmd⟩, by rw [exec_read_eq, hd, ht]⟩)
  · exact .inr (.inr ⟨inp.isIdle_iff.2 ⟨hrst, .inr hcmd⟩, .inr ht⟩)

/-- Two states with one sampling part agree field by field. -/
theorem samplingPart_eq_iff (s s' : State) :
    samplingPart s = samplingPart s' ↔
      s.histA = s'.histA ∧ s.histB = s'.histB ∧ s.histC = s'.histC ∧ s.nextEligibleTime = s'.nextEligibleTime ∧
      s.interval = s'.interval ∧ s.gatedClick = s'.gatedClick := by
  simp [samplingPart]

/-- A NOP or FLUSH step leaves what the decoder and the gate work on (R101, R104). -/
theorem samplingPart_of_idle {s t : State} (h : step s = .next t) (hidle : t.port.isIdle = true) :
    samplingPart t = samplingPart s := by
  rcases step_cases_of_port h with ⟨hrst, -⟩ | ⟨hread, -⟩ | ⟨-, ht | ht⟩
  · simp [Inputs.isIdle, hrst] at hidle
  · simp [Inputs.isRead_of_isIdle hidle] at hread
  · rw [ht]; rfl
  · rw [ht]; rfl

/-- A READ step is the command READ at the presented inputs. -/
theorem exec_read_of_step {s t : State} (h : step s = .next t) (hread : t.port.isRead = true) :
    exec .read (s.present t.port t.script) = .next t := by
  rcases step_cases_of_port h with ⟨hrst, -⟩ | ⟨-, hexec⟩ | ⟨hidle, -⟩
  · simp [Inputs.isRead, hrst] at hread
  · exact hexec
  · simp [Inputs.isRead_of_isIdle hidle] at hread

/-- Only a READ step samples (R16). -/
theorem isRead_of_sampled {s t : State} (h : step s = .next t) (hsampled : t.rSampled = true) :
    t.port.isRead = true := by
  rcases step_cases_of_port h with ⟨-, ht⟩ | ⟨hread, -⟩ | ⟨-, ht | ht⟩
  · rw [ht] at hsampled; cases hsampled
  · exact hread
  · rw [ht] at hsampled; cases hsampled
  · rw [ht] at hsampled; cases hsampled

/-- A READ step samples exactly when the difference of the clock and the stored time is below 2^31 (R92, R94). -/
theorem sampled_iff_of_read {s t : State} (h : step s = .next t) (hread : t.port.isRead = true) :
    t.rSampled = true ↔ (t.port.now - s.nextEligibleTime).toNat < 2 ^ 31 := by
  obtain ⟨hresponse, -⟩ := responseCarriesTheDecodeResult
  obtain ⟨-, -, -, hgate⟩ := hresponse _ _ (exec_read_of_step h hread)
  exact hgate.trans (eligible_eq_true_iff _ _)

/-- After a step that sampled, the stored time is one interval after its clock reading (R94). -/
theorem nextEligibleTime_of_sampled {s t : State} (h : step s = .next t) (hsampled : t.rSampled = true) :
    t.nextEligibleTime = t.port.now + t.interval := by
  obtain ⟨hinterval, -, -⟩ := step_keeps_parameters_and_takes_inputs h
  obtain ⟨-, htime⟩ := sampling_of_exec_read (exec_read_of_step h (isRead_of_sampled h hsampled)) hsampled
  rw [htime, hinterval]
  rfl

/-- A step that is not refused leaves a legal INTERVAL (R32). -/
theorem interval_lt_of_step {s t : State} (h : step s = .next t) : t.interval.toNat < 2 ^ 31 := by
  obtain ⟨hinterval, -, -⟩ := step_keeps_parameters_and_takes_inputs h
  obtain ⟨hlegal, -⟩ := step_next_cases h
  rw [hinterval]
  exact (intervalLegal_eq_true_iff s).1 hlegal

/-- Settles O25: the gate opens no earlier than one interval after the accepted sample (`interval_le_of_eligible`), so
the READ is the gated one of O28. -/
theorem secondReadWithinTheIntervalIsGated : Obligations.SecondReadWithinTheIntervalIsGated := by
  intro s t inp rest h hsampled hs hread hsoon
  have hl := interval_lt_of_step h
  obtain ⟨hrst, hcmd⟩ := inp.isRead_iff.1 hread
  have hstep : step t = exec .read (t.present inp rest) :=
    step_of_decode hl hs hrst ((decode_eq_ok_iff inp.cmd .read).2 hcmd.symm)
  have hgated : 2 ^ 31 ≤ (inp.now - t.nextEligibleTime).toNat := by
    by_contra hopen
    rw [Nat.not_le, ← eligible_eq_true_iff, nextEligibleTime_of_sampled h hsampled] at hopen
    have hpassed := interval_le_of_eligible hl hopen
    omega
  exact ⟨_, hstep.trans ((readCompletesOnBothPathsOfTheGate (t.present inp rest)).2 hgated),
    rfl, rfl, rfl, rfl, rfl, rfl, rfl, rfl⟩

/-! ### The click -/

/-- An accepted READ answers the click of the history it leaves behind (R84). -/
theorem rClick_of_exec_read {s t : State} (h : exec .read s = .next t) (hsampled : t.rSampled = true) :
    t.rClick = raised t.histC := by
  rw [exec_read_eq] at h
  cases h
  obtain ⟨-, hclick⟩ := result_timedDecode_of_sampled hsampled
  exact hclick

/-- Settles O36: the accepted click leaves `hist_c` at the clean edge, FLUSH keeps it there and releases the latch, and
the gated READ of O28 hands the latch that history's click under ACCESSOR alone. -/
theorem clickIsRelatchedOnlyUnderAccessor : Obligations.ClickIsRelatchedOnlyUnderAccessor := by
  intro s t u v ht hsampled hclick hu hflush hv hread hgated
  have hedge : t.histC = 0x80 := by
    rw [rClick_of_exec_read (exec_read_of_step ht (isRead_of_sampled ht hsampled)) hsampled] at hclick
    exact (raised_eq_true_iff t.histC).1 hclick
  have hpart := samplingPart_of_idle hu (Inputs.isIdle_of_isFlush hflush)
  obtain ⟨-, -, hhistC, -, -, hparamU⟩ := (samplingPart_eq_iff u t).1 hpart
  obtain ⟨-, hparamT, -⟩ := step_keeps_parameters_and_takes_inputs ht
  obtain ⟨-, hclicked⟩ := latch_of_step_not_read hu (Inputs.isRead_of_isFlush hflush)
  have hreleased : u.pendingClick = false := by simpa [hflush, clickedO] using hclicked
  have hclosed : 2 ^ 31 ≤ (v.port.now - u.nextEligibleTime).toNat := by
    rw [← Nat.not_lt, ← sampled_iff_of_read hv hread, hgated]
    exact Bool.false_ne_true
  have hexec := exec_read_of_step hv hread
  rw [(readCompletesOnBothPathsOfTheGate (u.present v.port v.script)).2 hclosed] at hexec
  rw [← congrArg State.pendingClick (Host.Outcome.next.inj hexec)]
  simp [hreleased, hhistC, hedge, hparamU, hparamT]

end Sys2Proof.Machine
end

section
/-! SUPPORT and proofs. The rate limiter along a run (spec 42_rate_limiter.md R94 to R97, R114): how far accepted
samples stand apart, how often a press is latched, and that the Decode Results see neither the latch nor NOP and
FLUSH steps. -/

namespace Sys2Proof.Machine

/-! ### The stored time until the next sample -/

/-- READ reloads the stored time when it samples and keeps it otherwise (R91, R94). -/
theorem nextEligibleTime_of_exec_read {s t : State} (h : exec .read s = .next t) :
    t.nextEligibleTime = if t.rSampled = true then s.port.now + s.interval else s.nextEligibleTime := by
  rw [exec_read_eq] at h
  cases h
  exact nextEligibleTime_timedDecode s

/-- A step that neither resets nor samples keeps the stored time (R91, R101, R104). -/
theorem nextEligibleTime_of_not_sampled {s t : State} (h : step s = .next t) (hrst : t.port.rst = false)
    (hgated : t.rSampled = false) : t.nextEligibleTime = s.nextEligibleTime := by
  rcases step_cases_of_port h with ⟨hreset, -⟩ | ⟨-, hread⟩ | ⟨hidle, -⟩
  · simp [hrst] at hreset
  · simp [nextEligibleTime_of_exec_read hread, hgated]
  · have hpart := samplingPart_of_idle h hidle
    obtain ⟨-, -, -, htime, -⟩ := (samplingPart_eq_iff t s).1 hpart
    exact htime

/-- So does a run that neither resets nor samples. -/
theorem nextEligibleTime_runSteps {k : Nat} {s t : State} (hrun : runSteps k s = .next t) (hno : noReset k s = true)
    (hnone : acceptedSamples k s = []) : t.nextEligibleTime = s.nextEligibleTime := by
  induction k generalizing s with
  | zero => cases hrun; rfl
  | succ k ih =>
    obtain ⟨u, hu, hrest⟩ := runSteps_succ_next hrun
    obtain ⟨hrst, hno'⟩ := noReset_succ hu hno
    obtain ⟨hlater, hgated⟩ : acceptedSamples k u = [] ∧ u.rSampled = false := by
      simpa [acceptedSamples_succ hu] using hnone
    rw [ih hrest hno' hlater, nextEligibleTime_of_not_sampled hu hrst hgated]

/-- Settles O48: the first sample stores its clock reading plus INTERVAL, the run keeps it, and the second sample finds
the gate open there (`interval_le_of_eligible`). -/
theorem acceptedSamplesAreAtLeastIntervalApart : Obligations.AcceptedSamplesAreAtLeastIntervalApart := by
  intro k s0 s1 s2 s3 h1 hsampled1 hrun hno hcount h3 hsampled3
  have hnone : acceptedSamples k s1 = [] := by
    have htotal := advCount_runSteps hrun hno
    exact List.eq_nil_of_length_eq_zero (by omega)
  have hstored : s2.nextEligibleTime = s1.port.now + s1.interval := by
    rw [nextEligibleTime_runSteps hrun hno hnone, nextEligibleTime_of_sampled h1 hsampled1]
  have hopen := (sampled_iff_of_read h3 (isRead_of_sampled h3 hsampled3)).1 hsampled3
  rw [← eligible_eq_true_iff, hstored] at hopen
  exact interval_le_of_eligible (interval_lt_of_step h1) hopen

/-! ### Presses under GATED_CLICK = FALSE -/

/-- Under FALSE a READ that sets the click field has sampled a clean edge (R96, R102). -/
theorem clean_edge_of_exec_read {s t : State} (h : exec .read s = .next t) (hparam : s.gatedClick = .alwaysFalse)
    (hclear : s.pendingClick = false) (hset : t.pendingClick = true) : t.rSampled = true ∧ t.histC = 0x80 := by
  rcases Nat.lt_or_ge (s.port.now - s.nextEligibleTime).toNat (2 ^ 31) with hopen | hgated
  · rw [(readCompletesOnBothPathsOfTheGate s).1 hopen] at h
    cases h
    exact ⟨rfl, by simpa [hclear] using hset⟩
  · rw [(readCompletesOnBothPathsOfTheGate s).2 hgated] at h
    cases h
    simp [hclear, hparam] at hset

/-- So has any step that sets it. -/
theorem clean_edge_of_step {s t : State} (h : step s = .next t) (hparam : s.gatedClick = .alwaysFalse)
    (hclear : s.pendingClick = false) (hset : t.pendingClick = true) : t.rSampled = true ∧ t.histC = 0x80 := by
  rcases step_cases_of_port h with ⟨-, ht⟩ | ⟨-, hread⟩ | ⟨-, ht | ht⟩
  · rw [ht] at hset; cases hset
  · exact clean_edge_of_exec_read hread hparam hclear hset
  · rw [ht] at hset; exact absurd (hclear.symm.trans hset) Bool.false_ne_true
  · rw [ht] at hset; cases hset

/-- A run goes on with the run from its first state. -/
theorem runSteps_succ {s u : State} (h : step s = .next u) (k : Nat) : runSteps (k + 1) s = runSteps k u := by
  simp [runSteps, h]

/-- A run and one more step are a run, whose last state comes last. -/
theorem runSteps_snoc {k : Nat} {s u t : State} (hrun : runSteps k s = .next u) (h : step u = .next t) :
    runSteps (k + 1) s = .next t ∧ visited (k + 1) s = visited k s ++ [t] := by
  induction k generalizing s with
  | zero => cases hrun; exact ⟨runSteps_succ h 0, visited_succ h 0⟩
  | succ k ih =>
    obtain ⟨w, hw, hrest⟩ := runSteps_succ_next hrun
    obtain ⟨hrun', hvisited⟩ := ih hrest
    exact ⟨by rw [runSteps_succ hw, hrun'], by rw [visited_succ hw, hvisited, visited_succ hw, List.cons_append]⟩

/-- Whether a run has a reset is seen at the ports of its states. -/
theorem noReset_eq_visited {k : Nat} {s t : State} (hrun : runSteps k s = .next t) :
    noReset k s = (visited k s).all fun u => !u.port.rst := by
  have htaken : s.script.take k = (visited k s).map State.port := by
    rw [script_eq_ports_append hrun, List.take_left' (by rw [List.length_map, length_visited hrun])]
  rw [noReset, htaken, List.all_map]
  rfl

/-- Settles O50: each of the two steps sampled a clean edge, and the first edge leaves `hist_c` only after eight samples
(`eight_le_of_clean_edge`). -/
theorem noPressIsLatchedTwiceUnderFalse : Obligations.NoPressIsLatchedTwiceUnderFalse := by
  intro k s0 s1 s2 s3 hparam h1 hclear1 hset1 hrun hno h3 hclear3 hset3
  obtain ⟨-, hparam1, -⟩ := step_keeps_parameters_and_takes_inputs h1
  obtain ⟨-, hparam2⟩ := runSteps_keeps_parameters hrun
  obtain ⟨-, hedge1⟩ := clean_edge_of_step h1 hparam hclear1 hset1
  obtain ⟨hsampled3, hedge3⟩ := clean_edge_of_step h3 (hparam2.trans (hparam1.trans hparam)) hclear3 hset3
  obtain ⟨hrun3, hvisited⟩ := runSteps_snoc hrun h3
  have hno3 : noReset (k + 1) s1 = true := by
    obtain ⟨hrst3, -⟩ := s3.port.isRead_iff.1 (isRead_of_sampled h3 hsampled3)
    rw [noReset_eq_visited hrun] at hno
    rw [noReset_eq_visited hrun3, hvisited, List.all_append, hno]
    simp [hrst3]
  have hne : acceptedSamples (k + 1) s1 ≠ [] := by simp [acceptedSamples, hvisited, hsampled3]
  have hshifted : shiftIn .C (acceptedSamples (k + 1) s1) 0x80 = 0x80 := by
    calc shiftIn .C (acceptedSamples (k + 1) s1) 0x80
        = shiftIn .C (acceptedSamples (k + 1) s1) (hist .C s1) := by rw [← hedge1]; rfl
      _ = hist .C s3 := (hist_runSteps hrun3 hno3 .C).symm
      _ = 0x80 := hedge3
  have height := eight_le_of_clean_edge hne hshifted
  have hcount := advCount_runSteps hrun3 hno3
  omega

/-! ### Two runs with the same READ and reset steps -/

/-- The READ and reset steps among the inputs to come. -/
def State.readsAndResets (s : State) : List Inputs :=
  s.script.filter fun inp => !inp.isIdle

/-- The rate-limited decoder works on the sampling part and the port alone (R84, R94). -/
theorem timedDecode_congr {s s' : State} (hpart : samplingPart s = samplingPart s') (hport : s.port = s'.port) :
    (timedDecode s).1 = (timedDecode s').1 ∧ samplingPart (timedDecode s).2 = samplingPart (timedDecode s').2 := by
  obtain ⟨ha, hb, hc, htime, hinterval, hparam⟩ := (samplingPart_eq_iff s s').1 hpart
  cases he : eligible s.port.now s.nextEligibleTime with
  | false =>
    have he' : eligible s'.port.now s'.nextEligibleTime = false := by rw [← hport, ← htime, he]
    rw [timedDecode_gated s he, timedDecode_gated s' he']
    simp [gatedClickValue_eq, hc, hparam, hpart]
  | true =>
    have he' : eligible s'.port.now s'.nextEligibleTime = true := by rw [← hport, ← htime, he]
    rw [timedDecode_open s he, timedDecode_open s' he']
    simp [samplingPart, ha, hb, hc, hport, hinterval, hparam]

/-- So READ answers from them alone, whatever the latch holds. -/
theorem exec_read_congr {s s' t t' : State} (h : exec .read s = .next t) (h' : exec .read s' = .next t')
    (hpart : samplingPart s = samplingPart s') (hport : s.port = s'.port) :
    samplingPart t = samplingPart t' ∧ response t = response t' := by
  obtain ⟨hresult, hpart'⟩ := timedDecode_congr hpart hport
  rw [exec_read_eq] at h h'
  cases h
  cases h'
  exact ⟨hpart', by simp [response, hresult]⟩

/-- A READ or reset step takes two states with one sampling part to two such states, with one response. -/
theorem step_congr {s s' t t' : State} (h : step s = .next t) (h' : step s' = .next t')
    (hpart : samplingPart s = samplingPart s') (hport : t.port = t'.port) (hidle : t.port.isIdle = false) :
    samplingPart t = samplingPart t' ∧ response t = response t' := by
  rcases step_cases_of_port h with ⟨hrst, ht⟩ | ⟨hread, hexec⟩ | ⟨hidle', -⟩
  · obtain ⟨-, -, -, -, hinterval, hparam⟩ := (samplingPart_eq_iff s s').1 hpart
    rcases step_cases_of_port h' with ⟨-, ht'⟩ | ⟨hread', -⟩ | ⟨hidle', -⟩
    · rw [ht, ht']
      simp [samplingPart, response, hinterval, hparam]
    · simp [← hport, Inputs.isRead, hrst] at hread'
    · simp [← hport, hidle] at hidle'
  · exact exec_read_congr hexec (exec_read_of_step h' (hport ▸ hread)) hpart hport
  · simp [hidle] at hidle'

/-- The first step of a script contributes its response if it is a READ. -/
theorem readResponses_script {s u : State} (h : step s = .next u) :
    readResponses s.script.length s =
      (if u.port.isRead = true then [response u] else []) ++ readResponses u.script.length u := by
  obtain ⟨-, -, hscript⟩ := step_keeps_parameters_and_takes_inputs h
  rw [hscript, List.length_cons, readResponses, visited_succ h]
  cases hread : u.port.isRead <;> simp [hread, readResponses]

/-- NOP and FLUSH are defined. -/
theorem Inputs.isDefined_of_isIdle {inp : Inputs} (h : inp.isIdle = true) : inp.isDefined = true := by
  obtain ⟨-, hcmd | hcmd⟩ := inp.isIdle_iff.1 h
  · simp [Inputs.isDefined, hcmd]
  · simp [Inputs.isDefined, hcmd]

/-- NOP and FLUSH steps at the front of a script return nothing and leave the sampling part. -/
theorem exists_state_after_leading_idles {idles rest : List Inputs} {s : State} (hl : s.interval.toNat < 2 ^ 31)
    (hidle : ∀ inp ∈ idles, inp.isIdle = true) (hs : s.script = idles ++ rest) :
    ∃ u, u.script = rest ∧ samplingPart u = samplingPart s ∧
      readResponses s.script.length s = readResponses u.script.length u := by
  induction idles generalizing s with
  | nil => exact ⟨s, hs, rfl, rfl⟩
  | cons inp idles ih =>
    have hinp : inp.isIdle = true := hidle inp List.mem_cons_self
    obtain ⟨t, ht⟩ := exists_step_eq_next_of_isDefined hl hs (Inputs.isDefined_of_isIdle hinp)
    obtain ⟨hinterval, -, hscript⟩ := step_keeps_parameters_and_takes_inputs ht
    obtain ⟨hport, hrest⟩ := List.cons.inj (hscript.symm.trans hs)
    have hpart := samplingPart_of_idle ht (hport ▸ hinp)
    obtain ⟨u, hu, hpartU, hresponses⟩ :=
      ih (hinterval ▸ hl) (fun x hx => hidle x (List.mem_cons_of_mem inp hx)) hrest
    refine ⟨u, hu, hpartU.trans hpart, ?_⟩
    rw [readResponses_script ht, hport, Inputs.isRead_of_isIdle hinp, hresponses]
    rfl

/-- The first READ or reset step of a script: what it is taken from, and what it contributes. -/
theorem exists_first_counted_step {inp : Inputs} {later : List Inputs} {s : State} (hl : s.interval.toNat < 2 ^ 31)
    (hdef : inp.isDefined = true) (hfirst : s.readsAndResets = inp :: later) :
    ∃ u t, samplingPart u = samplingPart s ∧ step u = .next t ∧ t.port = inp ∧
      t.readsAndResets = later ∧
      readResponses s.script.length s =
        (if inp.isRead = true then [response t] else []) ++ readResponses t.script.length t := by
  obtain ⟨idles, rest, hs, hidle, -, hlater⟩ := List.filter_eq_cons_iff.1 hfirst
  obtain ⟨u, hu, hpart, hresponses⟩ := exists_state_after_leading_idles hl (by simpa using hidle) hs
  obtain ⟨-, -, -, -, hinterval, -⟩ := (samplingPart_eq_iff u s).1 hpart
  obtain ⟨t, ht⟩ := exists_step_eq_next_of_isDefined (hinterval ▸ hl) hu hdef
  obtain ⟨-, -, hscript⟩ := step_keeps_parameters_and_takes_inputs ht
  obtain ⟨hport, hrest⟩ := List.cons.inj (hscript.symm.trans hu)
  exact ⟨u, t, hpart, ht, hport, by rw [State.readsAndResets, hrest, hlater],
    by rw [hresponses, readResponses_script ht, hport]⟩

/-- A script of NOP and FLUSH steps returns nothing. -/
theorem readResponses_of_no_counted_step {s : State} (hl : s.interval.toNat < 2 ^ 31)
    (hnone : s.readsAndResets = []) : readResponses s.script.length s = [] := by
  have hidle : ∀ inp ∈ s.script, inp.isIdle = true := by simpa [State.readsAndResets] using hnone
  obtain ⟨u, hu, -, hresponses⟩ := exists_state_after_leading_idles hl hidle (List.append_nil _).symm
  rw [hresponses, hu]
  rfl

/-- The responses of a run are a function of the sampling part and of the READ and reset steps: by induction on these
steps, each taken by both runs from states with one sampling part. -/
theorem readResponses_congr {counted : List Inputs} {s s' : State} (hl : s.interval.toNat < 2 ^ 31)
    (hl' : s'.interval.toNat < 2 ^ 31) (hpart : samplingPart s = samplingPart s')
    (hdef : ∀ inp ∈ counted, inp.isDefined = true) (hs : s.readsAndResets = counted)
    (hs' : s'.readsAndResets = counted) :
    readResponses s.script.length s = readResponses s'.script.length s' := by
  induction counted generalizing s s' with
  | nil => rw [readResponses_of_no_counted_step hl hs, readResponses_of_no_counted_step hl' hs']
  | cons inp later ih =>
    have hinp := hdef inp List.mem_cons_self
    have hidle : inp.isIdle = false := by
      have hmem : inp ∈ s.readsAndResets := hs ▸ List.mem_cons_self
      simpa using (List.mem_filter.1 hmem).2
    obtain ⟨u, t, hpartU, ht, hport, hlater, hresponses⟩ := exists_first_counted_step hl hinp hs
    obtain ⟨u', t', hpartU', ht', hport', hlater', hresponses'⟩ := exists_first_counted_step hl' hinp hs'
    obtain ⟨hpartT, hresponse⟩ := step_congr ht ht' (hpartU.trans (hpart.trans hpartU'.symm))
      (hport.trans hport'.symm) (hport ▸ hidle)
    have hrest := ih (interval_lt_of_step ht) (interval_lt_of_step ht') hpartT
      (fun x hx => hdef x (List.mem_cons_of_mem inp hx)) hlater hlater'
    rw [hresponses, hresponses', hresponse, hrest]

/-- Settles O45: `readResponses_congr`; every counted step is defined because every step is. -/
theorem decodeResultsIgnoreFlushNopAndLatch : Obligations.DecodeResultsIgnoreFlushNopAndLatch := by
  intro s s' hl hpart hdef _ hsame
  obtain ⟨-, -, -, -, hinterval, -⟩ := (samplingPart_eq_iff s s').1 hpart
  refine readResponses_congr hl (hinterval ▸ hl) hpart (fun inp hinp => ?_) rfl hsame.symm
  exact List.all_eq_true.1 hdef inp (List.mem_of_mem_filter hinp)

end Sys2Proof.Machine
end

section
/-! SUPPORT and proofs. The event latch (spec 43_event_latch.md R101 to R111): what each command does to the two latch
fields and what it leaves alone, how long a held event stays, and which of several events is held. -/

namespace Sys2Proof.Machine

/-! ### NOP and FLUSH -/

/-- Settles O26: NOP is the empty response, and that writes the response outputs alone. -/
theorem nopChangesNothing : Obligations.NopChangesNothing :=
  fun _ => rfl

/-- Settles O27: FLUSH is the cleared latch with the empty response, two field updates. -/
theorem flushClearsTheLatchAndNothingElse : Obligations.FlushClearsTheLatchAndNothingElse :=
  fun _ => rfl

/-- Settles O34: what FLUSH writes (O27) are constants, and neither of them is a history. -/
theorem flushIsIdempotent : Obligations.FlushIsIdempotent := by
  intro s t h
  rw [flushClearsTheLatchAndNothingElse s] at h
  cases h
  refine ⟨flushClearsTheLatchAndNothingElse _, fun hinc hclick => ?_, rfl, rfl⟩
  simp [elements, hinc, hclick]

/-! ### READ -/

/-- The decoder does not touch the click field either (R94). -/
theorem pendingClick_timedDecode (s : State) : (timedDecode s).2.pendingClick = s.pendingClick := by
  cases he : eligible s.port.now s.nextEligibleTime with
  | false => rw [timedDecode_gated s he]
  | true => rw [timedDecode_open s he]

/-- A gated decoder leaves the whole state (R91, R94). -/
theorem state_timedDecode_of_not_sampled {s : State} (h : (timedDecode s).1.sampled = false) :
    (timedDecode s).2 = s := by
  rw [sampled_timedDecode] at h
  rw [timedDecode_gated s h]

/-- Settles O33: READ writes each field if unset with what it responds (R102), whose code sign-extends to the increment
(`signExtend_incCode`); FLUSH and NOP write constants or nothing. -/
theorem latchStateMachines : Obligations.LatchStateMachines := by
  intro s t
  refine ⟨fun h => ?_, fun h => ?_, fun h => ?_⟩
  · rw [exec_read_eq] at h
    cases h
    simp [pendingIncrement_timedDecode, pendingClick_timedDecode, signExtend_incCode, latchIncrement, latchClick]
  · cases h; exact ⟨rfl, rfl⟩
  · cases h; exact ⟨rfl, rfl⟩

/-- Settles O29: NOP and FLUSH write the latch and the response alone, and so does READ when the decoder leaves the
state (`state_timedDecode_of_not_sampled`). -/
theorem frameOfTheCommands : Obligations.FrameOfTheCommands := by
  intro i s t h
  cases i with
  | nop => cases h; simp
  | flush => cases h; simp
  | read =>
    rw [exec_read_eq] at h
    cases h
    refine ⟨timedDecode_frame s, fun hgated => ?_, nofun, fun _ hgated => ?_⟩
    · have hstate := state_timedDecode_of_not_sampled (hgated.resolve_left (absurd rfl))
      simp [hstate]
    · have hinc := inc_timedDecode_of_not_sampled hgated
      simp [hinc, latchIncrement_no_event, pendingIncrement_timedDecode]

/-! ### A held event -/

/-- The latch across a READ step, in terms of the response it leaves (R102, R109). -/
theorem latch_of_step_read {s t : State} (h : step s = .next t) (hread : t.port.isRead = true) :
    t.pendingIncrement = (if s.pendingIncrement = 0 then t.rIncrement.signExtend 8 else s.pendingIncrement) ∧
    t.pendingClick = (if s.pendingClick = false then t.rClick else s.pendingClick) := by
  obtain ⟨hlatch, -, -⟩ := latchStateMachines (s.present t.port t.script) t
  exact hlatch (exec_read_of_step h hread)

/-- A step that is neither FLUSH nor reset keeps what a latch field holds (R109). -/
theorem held_event_of_step {s t : State} (h : step s = .next t) (hrst : t.port.rst = false)
    (hflush : t.port.isFlush = false) :
    (s.pendingIncrement ≠ 0 → t.pendingIncrement = s.pendingIncrement) ∧
    (s.pendingClick = true → t.pendingClick = true) := by
  cases hread : t.port.isRead with
  | true =>
    obtain ⟨hinc, hclick⟩ := latch_of_step_read h hread
    exact ⟨fun hheld => hinc.trans (if_neg hheld), fun hheld => by simpa [hheld] using hclick⟩
  | false =>
    obtain ⟨hinc, hclick⟩ : t.pendingIncrement = s.pendingIncrement ∧ t.pendingClick = s.pendingClick := by
      simpa [hrst, hflush, incrementO, clickedO] using latch_of_step_not_read h hread
    exact ⟨fun _ => hinc, hclick.trans⟩

/-- The first step of a run without FLUSH and reset is neither, and the rest of the run has none. -/
theorem noFlushNoReset_succ {k : Nat} {s u : State} (h : step s = .next u)
    (hno : noFlushNoReset (k + 1) s = true) :
    u.port.rst = false ∧ u.port.isFlush = false ∧ noFlushNoReset k u = true := by
  obtain ⟨-, -, hscript⟩ := step_keeps_parameters_and_takes_inputs h
  simpa [noFlushNoReset, hscript, and_assoc] using hno

/-- Settles O42, by induction on the length of the run. -/
theorem heldEventSurvivesUntilFlush : Obligations.HeldEventSurvivesUntilFlush := by
  intro k s t hrun hno
  induction k generalizing s with
  | zero => cases hrun; exact ⟨fun _ => rfl, id⟩
  | succ k ih =>
    obtain ⟨u, hu, hrest⟩ := runSteps_succ_next hrun
    obtain ⟨hrst, hflush, hno'⟩ := noFlushNoReset_succ hu hno
    obtain ⟨hinc, hclick⟩ := held_event_of_step hu hrst hflush
    obtain ⟨hincRest, hclickRest⟩ := ih u hrest hno'
    refine ⟨fun hheld => ?_, fun hheld => hclickRest (hclick hheld)⟩
    have hkept := hinc hheld
    exact (hincRest (hkept ▸ hheld)).trans hkept

/-! ### Which event is held -/

/-- The first non-zero increment among responses, the oldest first, or 0 (R110). -/
def firstIncrement (responses : List (BitVec 2 × Bool × Bool)) : Byte :=
  ((responses.map fun r => r.1.signExtend 8).find? (· != 0x00#8)).getD 0x00#8

theorem firstIncrement_cons (r : BitVec 2 × Bool × Bool) (later : List (BitVec 2 × Bool × Bool)) :
    firstIncrement (r :: later) = if r.1.signExtend 8 = 0 then firstIncrement later else r.1.signExtend 8 := by
  by_cases hzero : r.1.signExtend 8 = 0x00#8 <;> simp [firstIncrement, hzero]

/-- READ is defined. -/
theorem Inputs.isDefined_of_isRead {inp : Inputs} (h : inp.isRead = true) : inp.isDefined = true := by
  obtain ⟨-, hcmd⟩ := inp.isRead_iff.1 h
  simp [Inputs.isDefined, hcmd]

/-- A script of READ steps runs to its end with a response a step, and each latch field ends with what it held or, if it
held nothing, with the first event returned: by induction on the script. -/
theorem latch_of_script_of_reads {s : State} (hl : s.interval.toNat < 2 ^ 31)
    (hreads : s.script.all Inputs.isRead = true) :
    ∃ t, runSteps s.script.length s = .next t ∧
      (readResponses s.script.length s).length = s.script.length ∧
      t.pendingIncrement =
        (if s.pendingIncrement = 0 then firstIncrement (readResponses s.script.length s) else s.pendingIncrement) ∧
      t.pendingClick = (s.pendingClick || (readResponses s.script.length s).any fun r => r.2.1) := by
  induction hs : s.script generalizing s with
  | nil =>
    refine ⟨s, rfl, rfl, ?_, (Bool.or_false _).symm⟩
    split
    · next hidle => exact hidle
    · rfl
  | cons inp rest ih =>
    obtain ⟨hread, hreadsRest⟩ : inp.isRead = true ∧ rest.all Inputs.isRead = true := by simpa [hs] using hreads
    obtain ⟨u, hu⟩ := exists_step_eq_next_of_isDefined hl hs (Inputs.isDefined_of_isRead hread)
    obtain ⟨-, -, hscript⟩ := step_keeps_parameters_and_takes_inputs hu
    obtain ⟨hport, hrest⟩ := List.cons.inj (hscript.symm.trans hs)
    obtain ⟨hinc, hclick⟩ := latch_of_step_read hu (hport ▸ hread)
    obtain ⟨t, hrun, hlength, hincRest, hclickRest⟩ := ih (interval_lt_of_step hu) (hrest ▸ hreadsRest) hrest
    have hresponses : readResponses (inp :: rest).length s = response u :: readResponses rest.length u := by
      simpa [hport, hread, hs, hrest] using readResponses_script hu
    refine ⟨t, (runSteps_succ hu rest.length).trans hrun, ?_, ?_, ?_⟩
    · rw [hresponses, List.length_cons, hlength, List.length_cons]
    · by_cases hheld : s.pendingIncrement = 0
      · rw [if_pos hheld] at hinc ⊢
        rw [hincRest, hinc, hresponses, firstIncrement_cons]
        rfl
      · rw [if_neg hheld] at hinc ⊢
        rw [hincRest, hinc, if_neg hheld]
    · rw [hresponses, List.any_cons, hclickRest, hclick]
      cases hheld : s.pendingClick <;> simp [response]

/-- Settles O44: `latch_of_script_of_reads` from an idle field. -/
theorem firstNonZeroWins : Obligations.FirstNonZeroWins := by
  intro s hl hreads
  obtain ⟨t, hrun, hlength, hinc, hclick⟩ := latch_of_script_of_reads hl hreads
  refine ⟨t, hrun, hlength, fun hidle => hinc.trans (if_pos hidle), fun hidle => ?_⟩
  rw [hclick, hidle, Bool.false_or]

end Sys2Proof.Machine
end

section
/-! SUPPORT and proofs. Totality and the tie of two edges (spec 60_exceptions.md R120, R124): every defined step has a
successor, so every script of defined steps runs to its end; and two clean edges in one sample give no event. -/

namespace Sys2Proof.Machine

/-! ### No exception -/

/-- Settles O40, by induction on the script: its defined head is a step (R120) that keeps `INTERVAL` and leaves the
rest of the script. -/
theorem everyDefinedRunCompletes : Obligations.EveryDefinedRunCompletes := by
  intro s hl hdefined
  induction hs : s.script generalizing s with
  | nil => exact ⟨s, rfl, hs⟩
  | cons inp rest ih =>
    obtain ⟨hdef, hdefRest⟩ : inp.isDefined = true ∧ rest.all Inputs.isDefined = true := by simpa [hs] using hdefined
    obtain ⟨u, hu⟩ := exists_step_eq_next_of_isDefined hl hs hdef
    obtain ⟨-, -, hscript⟩ := step_keeps_parameters_and_takes_inputs hu
    have hrest : u.script = rest := (List.cons.inj (hscript.symm.trans hs)).2
    obtain ⟨t, hrun, hend⟩ := ih u (interval_lt_of_step hu) (hrest ▸ hdefRest) hrest
    exact ⟨t, (runSteps_succ hu rest.length).trans hrun, hend⟩

/-- Being defined (R159), as a proposition on the two signals it is read from. -/
theorem Inputs.isDefined_iff (inp : Inputs) : inp.isDefined = true ↔ inp.rst = true ∨ inp.cmd ≠ 0b11#2 := by
  simp [Inputs.isDefined]

/-- Settles O7: a defined step has a successor (`exists_step_eq_next_of_isDefined`), and there is no fault to answer,
`Fault` having no constructor. -/
theorem definedStepsHaveASuccessorAndNoneFaults : Obligations.DefinedStepsHaveASuccessorAndNoneFaults :=
  ⟨fun _ inp _ hl hs hdef => exists_step_eq_next_of_isDefined hl hs (inp.isDefined_iff.2 hdef), fun _ => nofun⟩

/-! ### Simultaneous edges -/

/-- At two clean edges neither condition of the decoding function holds: each needs the other channel low (R83 (b)). -/
theorem qdec_clean_edges : qdec 0x80 0x80 = .zero := by decide

/-- Settles O20: the accepted sample is decoded from the histories it leaves, the tie decodes to no event
(`qdec_clean_edges`), and the latch takes nothing from no event. -/
theorem simultaneousEdgesGiveNoEvent : Obligations.SimultaneousEdgesGiveNoEvent := by
  intro s t h hsampled ha hb
  rw [exec_read_eq] at h
  cases h
  simp only [respondResult_rSampled, respondResult_histA, latchResult_histA, respondResult_histB,
    latchResult_histB] at hsampled ha hb
  obtain ⟨hinc, -⟩ := result_timedDecode_of_sampled hsampled
  rw [ha, hb, qdec_clean_edges] at hinc
  refine ⟨?_, ?_⟩
  · rw [respondResult_rIncrement, hinc]
    rfl
  · simp [hinc, latchIncrement_no_event, pendingIncrement_timedDecode]

end Sys2Proof.Machine
end

section
/-! SUPPORT and proofs. Reset (spec 10_state.md R140 to R146; 70_reset_and_hazards.md R148): the reset event leaves the
state after reset, which has its elements and outputs at 0 and the invariant; and the first READ after it. -/

namespace Sys2Proof.Machine

/-! ### The reset state -/

/-- The reset event leads to the reset state of its own instance, but for the signals of the step (R140). -/
theorem resetEvent_eq_resetOf (s : State) :
    resetEvent s = { State.resetOf s.interval s.gatedClick with port := s.port, script := s.script } := rfl

/-- Resetting the state after reset changes nothing. -/
theorem resetEvent_resetOf (interval : Millis) (gatedClick : GatedClick) :
    resetEvent (State.resetOf interval gatedClick) = State.resetOf interval gatedClick := rfl

/-- Settles O8: the step is the reset event (`step_of_reset`), which leads to the reset state. -/
theorem resetStepSetsEveryElement : Obligations.ResetStepSetsEveryElement := by
  intro s inp rest hl hs hrst
  rw [step_of_reset hl hs hrst, resetEvent_eq_resetOf]
  exact ⟨0, rfl⟩

/-- Settles O9: `State.reset` is one of the reset states, whose six elements are zeros by definition, and so are
the outputs; the level is a bit of zero. -/
theorem resetStateIsS0 : Obligations.ResetStateIsS0 := by
  intro s hs
  obtain ⟨interval, gatedClick, rfl⟩ : ∃ interval gatedClick, s = State.resetOf interval gatedClick :=
    hs.elim (fun hreset => ⟨_, _, hreset⟩) id
  exact ⟨rfl, rfl, rfl, BitVec.getLsbD_zero, rfl⟩

/-- The reset event establishes the invariant and leaves the reset state as it is. -/
theorem inv_resetOf (interval : Millis) (gatedClick : GatedClick) : Inv (State.resetOf interval gatedClick) := by
  rw [← resetEvent_resetOf]
  exact inv_resetEvent _

/-- Settles O39: `State.reset` is the reset state at the model's choice of parameters. -/
theorem resetStateHasTheInvariant : Obligations.ResetStateHasTheInvariant :=
  ⟨inv_resetOf Config.resetInterval Config.resetGatedClick, inv_resetOf⟩

/-! ### The first READ -/

/-- Over an empty history the first high sample is a clean edge (R148). -/
theorem raised_shift_zero (sample : Bool) : raised (shift 0 sample) = sample := by
  cases sample <;> rfl

/-- Over empty histories a pin that is high alone is a detent, and two high pins are none (R148). -/
theorem qdec_shift_zero (a b : Bool) :
    qdec (shift 0 a) (shift 0 b) =
      if a = true ∧ b = false then .plusOne else if b = true ∧ a = false then .minusOne else .zero := by
  revert a b
  decide

/-- Settles O10: the stored time is 0, so the gate compares the clock itself; an accepted sample goes into empty
histories, which the response and then the empty latch report (`inv_of_exec_read`, `latchStateMachines`). -/
theorem firstReadAfterReset : Obligations.FirstReadAfterReset := by
  intro interval gatedClick inp t h
  obtain ⟨hresponse, -⟩ := responseCarriesTheDecodeResult
  obtain ⟨-, -, -, hgate⟩ := hresponse _ t h
  obtain ⟨hlatch, -, -⟩ := latchStateMachines _ t
  obtain ⟨hincrement, hclicked⟩ := hlatch h
  refine ⟨?_, fun hsampled => ?_⟩
  · rw [hgate, eligible_eq_true_iff]
    simp [State.resetOf]
  · obtain ⟨hhist, -⟩ := sampling_of_exec_read h hsampled
    have hA : t.histA = shift 0 inp.pinA := hhist .A
    have hB : t.histB = shift 0 inp.pinB := hhist .B
    have hC : t.histC = shift 0 inp.pinC := hhist .C
    have hinv : Inv t := inv_of_exec_read h (.inr (.inl rfl))
    have hclick : t.rClick = inp.pinC := by rw [hinv.sampled_click hsampled, hC, raised_shift_zero]
    refine ⟨?_, hclick, hincrement, hclicked.trans hclick⟩
    rw [hinv.sampled_increment hsampled, signExtend_incCode, hA, hB, qdec_shift_zero]
    rw [apply_ite incToI8, apply_ite incToI8]
    rfl

end Sys2Proof.Machine
end

section
/-! SUPPORT and proofs. The ghost count, the step and its command, and the refused steps (spec 10_state.md R32;
30_encoding.md R55 to R58; 60_exceptions.md R139; 70_reset_and_hazards.md R155, R159): the advances counted since reset
are three per accepted sample, a command's word survives the table, and a step is refused for its INTERVAL or for want
of inputs. -/

namespace Sys2Proof.Machine

/-! ### The ghost count -/

/-- After a reset step the count stands at the 0 the reset event gives it (log 9). -/
theorem advCount_of_reset_step {s t : State} (h : step s = .next t) (hrst : t.port.rst = true) : t.advCount = 0 := by
  obtain ⟨hlegal, -⟩ := step_next_cases h
  obtain ⟨-, -, hscript⟩ := step_keeps_parameters_and_takes_inputs h
  rw [step_of_reset ((intervalLegal_eq_true_iff s).1 hlegal) hscript hrst] at h
  exact congrArg State.advCount (Host.Outcome.next.inj h).symm

/-- Settles O47: the count along a run is `advCount_runSteps`, and the reset state and the reset event have it at 0. -/
theorem advanceCountIsThreePerAcceptedSample : Obligations.AdvanceCountIsThreePerAcceptedSample :=
  ⟨fun _ _ _ => advCount_runSteps, fun _ _ => rfl, fun _ _ => advCount_of_reset_step⟩

/-! ### The step and its command -/

/-- Settles O3: `step_of_decode`, presenting the inputs being the update of port and script. -/
theorem stepRunsTheDecodedCommand : Obligations.StepRunsTheDecodedCommand :=
  fun _ _ _ _ => step_of_decode

/-- A command word is the word of its own number (R56). -/
theorem commandOfNat_toNat (cmd : CommandWord) : commandOfNat cmd.toNat = some cmd := by
  simp [commandOfNat, cmd.isLt]

/-- A table row of two bits or more holds a command word whole (R56). -/
theorem toNat_mod_two_pow_of_two_le {nbits : Nat} (hbits : 2 ≤ nbits) (cmd : CommandWord) :
    cmd.toNat % 2 ^ nbits = cmd.toNat :=
  Nat.mod_eq_of_lt (cmd.isLt.trans_le (Nat.pow_le_pow_right two_pos hbits))

/-- The command word a table row gives back is the one placed in it. -/
theorem tableCommand_toNat {nbits : Nat} (hbits : 2 ≤ nbits) (cmd : CommandWord) :
    tableCommand nbits cmd.toNat = some cmd := by
  rw [tableCommand, toNat_mod_two_pow_of_two_le hbits, commandOfNat_toNat]

/-- A table row's word is decoded as the same word at the port. -/
theorem decodeTableWord_toNat {nbits : Nat} (hbits : 2 ≤ nbits) {cmd : CommandWord} {i : Instr}
    (hd : decode cmd = .ok i) : decodeTableWord nbits cmd.toNat = some i := by
  simp [decodeTableWord, decodeWord, toNat_mod_two_pow_of_two_le hbits, commandOfNat_toNat, hd]

/-- Settles O2: the decoder inverts the encoder (`decode_eq_ok_iff`), the table gives the word back
(`tableCommand_toNat`), and the step after placing it is the step on that word (`stepRunsTheDecodedCommand`). -/
theorem encodedCommandIsDecodedAndRun : Obligations.EncodedCommandIsDecodedAndRun := by
  intro i nbits s _ hbits hl
  have hd : decode (encode i) = .ok i := (decode_eq_ok_iff (encode i) i).2 rfl
  refine ⟨hd, decodeTableWord_toNat hbits hd, ?_⟩
  have hplaced : s.withFetchWord nbits (encode i).toNat =
      { s with script := { upcomingInputs s with rst := false, cmd := encode i } :: s.script.tail } := by
    rw [State.withFetchWord, issueTableWord, tableCommand_toNat hbits]
    rfl
  rw [hplaced]
  exact stepRunsTheDecodedCommand _ _ _ i hl rfl rfl hd

/-! ### The refused steps -/

/-- An INTERVAL out of range is refused before anything else is looked at (R32, log 6). -/
theorem step_of_interval_out_of_range {s : State} (hl : 2 ^ 31 ≤ s.interval.toNat) :
    step s = .refused .illegalInterval := by
  have hillegal : intervalLegal s = false := by
    rw [← Bool.not_eq_true, intervalLegal_eq_true_iff]
    omega
  simp [step, fetch, hillegal]

/-- Settles O6: `fetch` finds no inputs. -/
theorem nothingIssuedIsNoStep : Obligations.NothingIssuedIsNoStep := by
  intro s hl hs
  have hlegal := (intervalLegal_eq_true_iff s).2 hl
  simp [step, fetch, hlegal, hs]

/-- With a legal INTERVAL a step is refused only for its script: nothing is issued, or the word is reserved. -/
theorem step_ne_illegalInterval {s : State} (hl : s.interval.toNat < 2 ^ 31) :
    step s ≠ .refused .illegalInterval := by
  cases hs : s.script with
  | nil => simp [nothingIssuedIsNoStep s hl hs]
  | cons inp rest =>
    cases hdef : inp.isDefined with
    | true =>
      obtain ⟨t, ht⟩ := exists_step_eq_next_of_isDefined hl hs hdef
      simp [ht]
    | false =>
      obtain ⟨hrst, hcmd⟩ := (Inputs.isDefined_eq_false_iff inp).1 hdef
      simp [reservedCommandIsRefused s inp rest hl hs hrst hcmd]

/-- One interval before the stored time the wrapped difference is minus the interval: the gate is open when that is 0
or lies in the lower half range. -/
theorem eligible_self_add_iff (now interval : Millis) :
    eligible now (now + interval) = true ↔ interval.toNat = 0 ∨ 2 ^ 31 < interval.toNat := by
  have hdiff : now - (now + interval) = -interval := by ring
  have hbound := interval.isLt
  rw [eligible_eq_true_iff, hdiff, BitVec.toNat_neg]
  omega

/-- Settles O5: out of range is refused (`step_of_interval_out_of_range`), in range is not for that reason
(`step_ne_illegalInterval`), and the gate right after a sample is `eligible_self_add_iff`. -/
theorem intervalOutOfRangeIsRefused : Obligations.IntervalOutOfRangeIsRefused := by
  refine ⟨fun s => ⟨fun h => ?_, step_of_interval_out_of_range⟩, eligible_self_add_iff⟩
  by_contra hl
  exact step_ne_illegalInterval (Nat.lt_of_not_le hl) h

end Sys2Proof.Machine
end
